-- ==== Sys2Proof/Word.lean ====
section
/-!
DEFINITION. The word types of the hardware: every quantity is an unsigned bit vector of a stated
width (rule R160 of `41_crc16.md`).
-/

namespace Sys2Proof

/-- A byte: a symbol, a frame byte, the shift register (`00_scope.md` section 6.1). -/
abbrev Byte := BitVec 8

/-- A 16-bit value: the CRC, `timestamp`, the REG_REQ `flags` (rules R87, R89, R150). -/
abbrev Word16 := BitVec 16

/-- A 32-bit counter, the width the source gives `byte_count` and `declared_length` (R24, R25). -/
abbrev Word32 := BitVec 32

/-- A 64-bit value: the `uuid` of the typed payloads (rules R87, R89, R91, R92). -/
abbrev Word64 := BitVec 64

end Sys2Proof
end

