-- ==== Sys2Proof/Config.lean ====
section
/-!
DEFINITION. What is fixed for one piece of hardware: the hardwired constants (rule R5 and the
parameter table of `00_scope.md` section 4) and the three parameters that the spec leaves `OPEN`
(decisions D1, D2, D6), which the model takes as data instead of choosing.
-/

namespace Sys2Proof

/-- The order of the bytes of a multi-byte field: `le` puts the least significant byte first. -/
inductive ByteOrder where
  | le
  | be
deriving DecidableEq, Repr

/-- The open build-time parameters of the spec (`92_eei_decisions.md` D1, D2, D6). They are not
registers: no instruction writes them (rule R32). -/
structure Params where
  /-- `FLAGS_ORDER`: which of frame offsets 1 and 2 carries the semantic flags byte (rule R53). -/
  flagsOrder : ByteOrder
  /-- `FIELD_ORDER`: the byte order of the multi-byte payload fields (rule R54). -/
  fieldOrder : ByteOrder
  /-- `STRICT_PAYLOAD_LEN`: whether a typed payload longer than its layout also falls back (D6). -/
  strictPayloadLen : Bool
deriving DecidableEq, Repr

namespace Config

/-- The defaults of the three open parameters: `LE`, `LE`, `false` (`00_scope.md` section 4). -/
def defaultParams : Params where
  flagsOrder := .le
  fieldOrder := .le
  strictPayloadLen := false

/-- `LEN_BIAS`: a frame has `length byte + 3` bytes. -/
def lenBias : Nat := 3

/-- `BUF_CAPACITY`: the bytes of the accumulation buffer (rule R27). -/
def bufCapacity : Nat := 258

/-- `HDR_SIZE`: the bytes of the MAC header (rule R84, conflict C1). -/
def hdrSize : Nat := 7

/-- `CRC_SIZE`: the bytes of the CRC trailer (rule R85). -/
def crcSize : Nat := 2

/-- `MIN_DECODABLE`: the shortest frame the decoder accepts (rule R172). -/
def minDecodable : Nat := hdrSize + crcSize

/-- `CRC_POLY`, with the term x^16 implied (rule R150). -/
def crcPoly : Word16 := 0x1021#16

/-- `CRC_INIT` (rule R150). -/
def crcInit : Word16 := 0x0000#16

/-- `TYPE_NAME_WIDTH`: the columns of the type name in the line (rule R253). -/
def typeNameWidth : Nat := 12

end Config

end Sys2Proof
end

