-- ==== Sys2Proof/Syntax.lean ====
section
/-!
DEFINITION. The inputs of the hardware and its instructions. The block runs no program; by the
spec's own likeness (`00_scope.md` section 1) an instruction is one input of the synchronizer
(`BIT`, `SYNC`, `EOS`, `RESET`: rules R126 to R129) or one frame type with its payload decoder
(rules R202 to R233). One constructor of `Instr` stands for one row of `spec/opcode_table.json`.
-/

namespace Sys2Proof

/-- One item of the SYMBOL space (rule R50): a symbol byte, or the out-of-band end-of-stream signal
that terminates the stream (rule R81). -/
inductive StreamItem where
  | symbol (y : Byte)
  | eos
deriving DecidableEq, Repr

/-- One input event of the block, in arrival order (decision D4): an item of the symbol stream; the
`RESET` signal; or a frame handed straight to the decoder (rules R50, R170).
`reset lost` carries the stream item that arrived together with `RESET`, if any: "`RESET` beats
everything" (rule R288), so that item is lost. -/
inductive Input where
  | stream (x : StreamItem)
  | reset (lost : Option StreamItem)
  | frame (F : List Byte)
deriving DecidableEq, Repr

/-- The Frame Type field as "a tagged variant over the fixed 32 frame types" (rules R86, R200). -/
inductive FrameType where
  | beacon
  | beaconReq
  | poll
  | ack
  | regReq
  | deregReq
  | regAck
  | reserved07
  | reserved08
  | reserved09
  | reserved0A
  | reserved0B
  | reserved0C
  | reserved0D
  | reserved0E
  | reserved0F
  | rawData
  | tinyhan
  | mqttSn
  | sixLowpan
  | reserved14
  | reserved15
  | reserved16
  | reserved17
  | reserved18
  | reserved19
  | reserved1A
  | reserved1B
  | reserved1C
  | reserved1D
  | syslog
  | extended
deriving DecidableEq, Repr

/-- The fields of a frame that passed the decoder's checks, apart from its type and its CRC trailer
(rules R60, R84, R174 to R177). The flags byte is split into its type (kept beside this record) and
its bits 7, 6 and 5. -/
structure FrameFields where
  /-- The length byte `L`, frame offset 0. -/
  length : Byte
  /-- Bit 7 of the flags byte: Data-Pending. -/
  dp : Bool
  /-- Bit 6 of the flags byte: Acknowledgement-Requested. -/
  ar : Bool
  /-- Bit 5 of the flags byte: ignored, but kept raw in the record (rule R97). -/
  bit5 : Bool
  /-- The high byte of the flags field: ignored, but kept raw in the record (rule R97). -/
  flagsHi : Byte
  net : Byte
  dest : Byte
  src : Byte
  seq : Byte
  /-- The bytes between the header and the trailer (rule R177). -/
  payload : List Byte
deriving DecidableEq, Repr

/-- The instructions: one constructor per row of `spec/opcode_table.json`. -/
inductive Instr where
  /-- `BIT d` (rule R126); `ignored` is symbol bits 7:2, which have no effect (rule R80). -/
  | bit (ignored : BitVec 6) (d : Bool)
  /-- `SYNC d` (rule R127); `ignored` as in `bit`. -/
  | sync (ignored : BitVec 6) (d : Bool)
  /-- `EOS` (rule R128). -/
  | eos
  /-- `RESET` (rule R129). -/
  | reset
  /-- Frame type 0, `BEACON` (rule R202). -/
  | beacon (f : FrameFields)
  /-- Frame type 1, `BEACON_REQ` (rule R203). -/
  | beaconReq (f : FrameFields)
  /-- Frame type 2, `POLL` (rule R204). -/
  | poll (f : FrameFields)
  /-- Frame type 3, `ACK` (rule R205). -/
  | ack (f : FrameFields)
  /-- Frame type 4, `REG_REQ` (rule R206). -/
  | regReq (f : FrameFields)
  /-- Frame type 5, `DEREG_REQ` (rule R207). -/
  | deregReq (f : FrameFields)
  /-- Frame type 6, `REG_ACK` (rule R208). -/
  | regAck (f : FrameFields)
  /-- Frame type 7, `RESERVED07` (rule R209). -/
  | reserved07 (f : FrameFields)
  /-- Frame type 8, `RESERVED08` (rule R210). -/
  | reserved08 (f : FrameFields)
  /-- Frame type 9, `RESERVED09` (rule R211). -/
  | reserved09 (f : FrameFields)
  /-- Frame type 10, `RESERVED0A` (rule R212). -/
  | reserved0A (f : FrameFields)
  /-- Frame type 11, `RESERVED0B` (rule R213). -/
  | reserved0B (f : FrameFields)
  /-- Frame type 12, `RESERVED0C` (rule R214). -/
  | reserved0C (f : FrameFields)
  /-- Frame type 13, `RESERVED0D` (rule R215). -/
  | reserved0D (f : FrameFields)
  /-- Frame type 14, `RESERVED0E` (rule R216). -/
  | reserved0E (f : FrameFields)
  /-- Frame type 15, `RESERVED0F` (rule R217). -/
  | reserved0F (f : FrameFields)
  /-- Frame type 16, `RAW_DATA` (rule R218). -/
  | rawData (f : FrameFields)
  /-- Frame type 17, `TINYHAN` (rule R219). -/
  | tinyhan (f : FrameFields)
  /-- Frame type 18, `MQTT-SN` (rule R220). -/
  | mqttSn (f : FrameFields)
  /-- Frame type 19, `6LOWPAN` (rule R221). -/
  | sixLowpan (f : FrameFields)
  /-- Frame type 20, `RESERVED14` (rule R222). -/
  | reserved14 (f : FrameFields)
  /-- Frame type 21, `RESERVED15` (rule R223). -/
  | reserved15 (f : FrameFields)
  /-- Frame type 22, `RESERVED16` (rule R224). -/
  | reserved16 (f : FrameFields)
  /-- Frame type 23, `RESERVED17` (rule R225). -/
  | reserved17 (f : FrameFields)
  /-- Frame type 24, `RESERVED18` (rule R226). -/
  | reserved18 (f : FrameFields)
  /-- Frame type 25, `RESERVED19` (rule R227). -/
  | reserved19 (f : FrameFields)
  /-- Frame type 26, `RESERVED1A` (rule R228). -/
  | reserved1A (f : FrameFields)
  /-- Frame type 27, `RESERVED1B` (rule R229). -/
  | reserved1B (f : FrameFields)
  /-- Frame type 28, `RESERVED1C` (rule R230). -/
  | reserved1C (f : FrameFields)
  /-- Frame type 29, `RESERVED1D` (rule R231). -/
  | reserved1D (f : FrameFields)
  /-- Frame type 30, `SYSLOG` (rule R232). -/
  | syslog (f : FrameFields)
  /-- Frame type 31, `EXTENDED` (rule R233). -/
  | extended (f : FrameFields)
deriving DecidableEq, Repr

/-- The instruction of a frame type (rule R86). -/
def Instr.ofFrame (t : FrameType) (f : FrameFields) : Instr :=
  match t with
  | .beacon => .beacon f
  | .beaconReq => .beaconReq f
  | .poll => .poll f
  | .ack => .ack f
  | .regReq => .regReq f
  | .deregReq => .deregReq f
  | .regAck => .regAck f
  | .reserved07 => .reserved07 f
  | .reserved08 => .reserved08 f
  | .reserved09 => .reserved09 f
  | .reserved0A => .reserved0A f
  | .reserved0B => .reserved0B f
  | .reserved0C => .reserved0C f
  | .reserved0D => .reserved0D f
  | .reserved0E => .reserved0E f
  | .reserved0F => .reserved0F f
  | .rawData => .rawData f
  | .tinyhan => .tinyhan f
  | .mqttSn => .mqttSn f
  | .sixLowpan => .sixLowpan f
  | .reserved14 => .reserved14 f
  | .reserved15 => .reserved15 f
  | .reserved16 => .reserved16 f
  | .reserved17 => .reserved17 f
  | .reserved18 => .reserved18 f
  | .reserved19 => .reserved19 f
  | .reserved1A => .reserved1A f
  | .reserved1B => .reserved1B f
  | .reserved1C => .reserved1C f
  | .reserved1D => .reserved1D f
  | .syslog => .syslog f
  | .extended => .extended f

/-- The frame type and fields of a frame instruction, and none for the four inputs of the
synchronizer. -/
def Instr.frame? (i : Instr) : Option (FrameType × FrameFields) :=
  match i with
  | .bit _ _ => none
  | .sync _ _ => none
  | .eos => none
  | .reset => none
  | .beacon f => some (.beacon, f)
  | .beaconReq f => some (.beaconReq, f)
  | .poll f => some (.poll, f)
  | .ack f => some (.ack, f)
  | .regReq f => some (.regReq, f)
  | .deregReq f => some (.deregReq, f)
  | .regAck f => some (.regAck, f)
  | .reserved07 f => some (.reserved07, f)
  | .reserved08 f => some (.reserved08, f)
  | .reserved09 f => some (.reserved09, f)
  | .reserved0A f => some (.reserved0A, f)
  | .reserved0B f => some (.reserved0B, f)
  | .reserved0C f => some (.reserved0C, f)
  | .reserved0D f => some (.reserved0D, f)
  | .reserved0E f => some (.reserved0E, f)
  | .reserved0F f => some (.reserved0F, f)
  | .rawData f => some (.rawData, f)
  | .tinyhan f => some (.tinyhan, f)
  | .mqttSn f => some (.mqttSn, f)
  | .sixLowpan f => some (.sixLowpan, f)
  | .reserved14 f => some (.reserved14, f)
  | .reserved15 f => some (.reserved15, f)
  | .reserved16 f => some (.reserved16, f)
  | .reserved17 f => some (.reserved17, f)
  | .reserved18 f => some (.reserved18, f)
  | .reserved19 f => some (.reserved19, f)
  | .reserved1A f => some (.reserved1A, f)
  | .reserved1B f => some (.reserved1B, f)
  | .reserved1C f => some (.reserved1C, f)
  | .reserved1D f => some (.reserved1D, f)
  | .syslog f => some (.syslog, f)
  | .extended f => some (.extended, f)

end Sys2Proof
end

