-- ==== Sys2Proof/Machine/Flags.lean ====
section
/-!
DEFINITION. Every flag bit the spec names: the symbol's data and sync bits (rule R80), the header's
AR and DP (rules R84, R176), the BEACON flags (rule R88) and the REG_REQ flags (rule R90).
-/

namespace Sys2Proof.Machine

/-- Symbol bit 0, the recovered data bit (rule R80). -/
def symData (y : Byte) : Bool := y.getLsbD 0

/-- Symbol bit 1, the sync flag (rule R80). -/
def symSync (y : Byte) : Bool := y.getLsbD 1

/-- Symbol bits 7:2, ignored (rules R80, R136). -/
def symIgnored (y : Byte) : BitVec 6 := y.extractLsb' 2 6

/-- The type field, `flags & 0x1F` (rule R176). -/
def typeBits (flags : Byte) : BitVec 5 := flags.extractLsb' 0 5

/-- Header flag bit 5, ignored (rule R97). -/
def flagBit5 (flags : Byte) : Bool := flags.getLsbD 5

/-- AR, `(flags & 0x40) != 0` (rule R176). -/
def flagAR (flags : Byte) : Bool := flags.getLsbD 6

/-- DP, `(flags & 0x80) != 0` (rule R176). -/
def flagDP (flags : Byte) : Bool := flags.getLsbD 7

/-- BEACON `SYNC`, bit 0 of its flags byte (rule R88). -/
def beaconSync (flags : Byte) : Bool := flags.getLsbD 0

/-- BEACON `PERMIT_ATTACH`, bit 1 of its flags byte (rule R88). -/
def beaconPermitAttach (flags : Byte) : Bool := flags.getLsbD 1

/-- REG_REQ `heartbeat_exp`, `flags & 0x000F` (rule R90). -/
def heartbeatExp (flags : Word16) : BitVec 4 := flags.extractLsb' 0 4

/-- The heartbeat interval `2 ^ heartbeat_exp` in seconds, 1 to 32768 (rule R96, decision D14). -/
def heartbeatSecs (exp : BitVec 4) : Word16 := BitVec.ofNat 16 (2 ^ exp.toNat)

/-- REG_REQ `SLEEPY`, bit 4 of its flags (rule R90). -/
def regReqSleepy (flags : Word16) : Bool := flags.getLsbD 4

end Sys2Proof.Machine
end

