-- ==== Sys2Proof/Machine/Operands.lean ====
section
/-!
DEFINITION. Reading operands from a frame or a payload: the load primitive `MemRead` (rule R67), the
byte orders `LE`, `BE` and `ORD` of `00_scope.md` section 6.1, and the field widths of `30_encoding.md`
section 6.
-/

namespace Sys2Proof.Machine

/-- `MemRead(o, k)` of rule R67: the `k` bytes at offsets `o .. o+k-1`, in offset order. It is used
only where `o + k <= len(F)` has been checked (`memRead_length` in `Laws/Operands.lean`). -/
def memRead (F : List Byte) (o k : Nat) : List Byte :=
  (F.drop o).take k

/-- `F[o]`, used only for `o < len(F)`: the spec gives a read past the end no meaning (rule R67), and
the value 0 that this total function gives there is never read (log entry 18). -/
def byteAt (F : List Byte) (o : Nat) : Byte :=
  F.getD o 0#8

/-- `LE(s)`: the first byte is the least significant (`00_scope.md` section 6.1). -/
def leVal : List Byte → Nat
  | [] => 0
  | b :: s => b.toNat + 256 * leVal s

/-- `BE(s)`: the first byte is the most significant (`00_scope.md` section 6.1). -/
def beVal (s : List Byte) : Nat :=
  s.foldl (fun v b => 256 * v + b.toNat) 0

/-- `ORD(s)` under the parameter `FIELD_ORDER` (rule R54). -/
def ordVal (o : ByteOrder) (s : List Byte) : Nat :=
  match o with
  | .le => leVal s
  | .be => beVal s

/-- A `w`-bit field of `k` bytes at payload offset `o` (rules R54, R96). -/
def field (w : Nat) (ord : ByteOrder) (P : List Byte) (o k : Nat) : BitVec w :=
  BitVec.ofNat w (ordVal ord (memRead P o k))

/-- The big-endian value of the two bytes at offset `o`: the received CRC is `be16 F (n-2)`
(rule R52). -/
def be16 (F : List Byte) (o : Nat) : Word16 :=
  BitVec.ofNat 16 (beVal (memRead F o 2))

end Sys2Proof.Machine
end

