-- ==== Sys2Proof/Machine/Record.lean ====
section
/-!
DEFINITION. The decoder's result port as data: the decode record of rule R171, the error taxonomy
and codes of rule R280, and the report (record, status code, line) that every decoded frame gives.
-/

namespace Sys2Proof.Machine

/-- The errors of a decode that end in an `Error` record, with what each records (rules R171, R280). -/
inductive DecodeError where
  /-- `len(F) < 9` (rules R172, R281); records `n = len(F)`. -/
  | frameTooShort (n : Nat)
  /-- The computed CRC differs from the trailer (rules R173, R282); records both values. -/
  | crcError (computed received : Word16)
  /-- `len(F) < F[0] + 3` (rules R175, R283); records the length byte and `n = len(F)`. -/
  | payloadTooShort (L : Byte) (n : Nat)
deriving DecidableEq, Repr

/-- The names of the DEREG_REQ `reason` (rule R91). -/
inductive ReasonName where
  | user
  | power
  | unknown
deriving DecidableEq, Repr

/-- The names of the REG_ACK `status` (rule R92). -/
inductive StatusName where
  | ok
  | denied
  | full
  | shutdown
  | admin
  | addressInvalid
  | unknown
deriving DecidableEq, Repr

/-- The payload part of the decode record (rule R171). -/
inductive Body where
  | beacon (uuid : Word64) (timestamp : Word16) (flags interval : Byte) (sync permitAttach : Bool)
  | regReq (uuid : Word64) (flags : Word16) (heartbeatExp : BitVec 4) (heartbeatSecs : Word16)
      (sleepy : Bool)
  | deregReq (uuid : Word64) (reason : Byte) (reasonName : ReasonName)
  | regAck (uuid : Word64) (addr status : Byte) (statusName : StatusName)
  /-- Stub types: no payload detail (rule R93). -/
  | noDetail
  /-- Opaque types, and the fallback of a typed decoder (rules R94, R201). -/
  | hex (bytes : List Byte)
  /-- SYSLOG (rule R95). -/
  | text (bytes : List Byte)
deriving DecidableEq, Repr

/-- The `Decoded` record of rule R171. `frameType` is the field the rule calls `type`. -/
structure Decoded where
  length : Byte
  flags : Byte
  flagsHi : Byte
  net : Byte
  dest : Byte
  src : Byte
  seq : Byte
  frameType : FrameType
  ar : Bool
  dp : Bool
  payload : List Byte
  body : Body
  /-- True when a typed decoder failed and `body` is the hex dump (rule R201). -/
  fallback : Bool
deriving DecidableEq, Repr

/-- The decode record (rule R171). -/
inductive DecodeResult where
  | error (e : DecodeError)
  | decoded (d : Decoded)
deriving DecidableEq, Repr

/-- The error taxonomy of rule R280. `unknownFrameType` is "not an error": nothing raises it (R285). -/
inductive ErrorName where
  | none
  | frameTooShort
  | payloadTooShort
  | crcError
  | payloadDecodeError
  | unknownFrameType
deriving DecidableEq, Repr

/-- The codes of rule R280, in the source's order. -/
def ErrorName.code (e : ErrorName) : Nat :=
  match e with
  | .none => 0
  | .frameTooShort => 1
  | .payloadTooShort => 2
  | .crcError => 3
  | .payloadDecodeError => 4
  | .unknownFrameType => 5

/-- The error each record shows (rule R280): a `Decoded` record with `fallback` shows the caught
`PayloadDecodeError`. -/
def DecodeResult.errorName (r : DecodeResult) : ErrorName :=
  match r with
  | .error (.frameTooShort _) => .frameTooShort
  | .error (.crcError _ _) => .crcError
  | .error (.payloadTooShort _ _) => .payloadTooShort
  | .decoded d => if d.fallback then .payloadDecodeError else .none

/-- A line of text, one character per column; SYSLOG characters run up to code point 255 (R262). -/
abbrev Line := List Char

/-- What the decoder puts out for one frame: the record, the code on the status port, the line
(rules R171, R179, R280). -/
structure Report where
  record : DecodeResult
  status : Nat
  line : Line
deriving DecidableEq, Repr

end Sys2Proof.Machine
end

