-- ==== Sys2Proof/Machine/Payload.lean ====
section
/-!
DEFINITION. The payload decoders of `43_payload_dispatch.md` and the dispatch on the frame type. A
decoder gives the body of the record and the `fallback` bit.
-/

namespace Sys2Proof.Machine

/-- The one failure of a typed decoder, `PayloadDecodeError` (rules R201, R284): the payload is shorter
than the fixed layout, or, under `STRICT_PAYLOAD_LEN`, of any other length (decision D6). -/
def payloadFails (p : Params) (size : Nat) (P : List Byte) : Bool :=
  if p.strictPayloadLen then decide (P.length ≠ size) else decide (P.length < size)

/-- `typed(V, size, P)` of rule R200: the explicit fallback arm of rule R201 catches the failure and
degrades the body to the hex dump of the whole payload. -/
def typed (p : Params) (size : Nat) (P : List Byte) (parsed : Body) : Body × Bool :=
  if payloadFails p size P then (.hex P, true) else (parsed, false)

/-- The `uuid` that all four typed layouts begin with (rules R87, R89, R91, R92). -/
def uuidOf (p : Params) (P : List Byte) : Word64 :=
  field 64 p.fieldOrder P 0 8

/-- BEACON (rules R87, R88, R202). -/
def beaconPayload (p : Params) (P : List Byte) : Body × Bool :=
  typed p 12 P <|
    .beacon (uuidOf p P) (field 16 p.fieldOrder P 8 2) (byteAt P 10) (byteAt P 11)
      (beaconSync (byteAt P 10)) (beaconPermitAttach (byteAt P 10))

/-- REG_REQ (rules R89, R90, R96, R206). -/
def regReqPayload (p : Params) (P : List Byte) : Body × Bool :=
  let flags : Word16 := field 16 p.fieldOrder P 8 2
  typed p 10 P <|
    .regReq (uuidOf p P) flags (heartbeatExp flags) (heartbeatSecs (heartbeatExp flags))
      (regReqSleepy flags)

/-- The DEREG_REQ reason names, "0=USER, 1=POWER, else UNKNOWN" (rule R91). -/
def reasonName (reason : Byte) : ReasonName :=
  match reason.toNat with
  | 0 => .user
  | 1 => .power
  | _ => .unknown

/-- DEREG_REQ (rules R91, R207). -/
def deregReqPayload (p : Params) (P : List Byte) : Body × Bool :=
  typed p 9 P <| .deregReq (uuidOf p P) (byteAt P 8) (reasonName (byteAt P 8))

/-- The REG_ACK status names in the spec's numbering (rule R92, decision D11). -/
def statusName (status : Byte) : StatusName :=
  match status.toNat with
  | 0 => .ok
  | 1 => .denied
  | 2 => .full
  | 3 => .shutdown
  | 4 => .admin
  | 5 => .addressInvalid
  | _ => .unknown

/-- REG_ACK (rules R92, R208). -/
def regAckPayload (p : Params) (P : List Byte) : Body × Bool :=
  typed p 10 P <|
    .regAck (uuidOf p P) (byteAt P 8) (byteAt P 9) (statusName (byteAt P 9))

/-- The stub types: the payload is not looked at (rules R93, R203 to R205). -/
def stubPayload : Body × Bool := (.noDetail, false)

/-- The opaque types: the whole payload as a hex dump (rules R94, R209 to R231, R233). -/
def opaquePayload (P : List Byte) : Body × Bool := (.hex P, false)

/-- SYSLOG: the payload less its first byte, as text; empty for 0 or 1 bytes (rules R95, R232). -/
def syslogPayload (P : List Byte) : Body × Bool := (.text (P.drop 1), false)

/-- `dispatch(type, P)` of rule R200, exhaustive over the 32 types. -/
def dispatch (p : Params) (t : FrameType) (P : List Byte) : Body × Bool :=
  match t with
  | .beacon => beaconPayload p P
  | .beaconReq => stubPayload
  | .poll => stubPayload
  | .ack => stubPayload
  | .regReq => regReqPayload p P
  | .deregReq => deregReqPayload p P
  | .regAck => regAckPayload p P
  | .reserved07 => opaquePayload P
  | .reserved08 => opaquePayload P
  | .reserved09 => opaquePayload P
  | .reserved0A => opaquePayload P
  | .reserved0B => opaquePayload P
  | .reserved0C => opaquePayload P
  | .reserved0D => opaquePayload P
  | .reserved0E => opaquePayload P
  | .reserved0F => opaquePayload P
  | .rawData => opaquePayload P
  | .tinyhan => opaquePayload P
  | .mqttSn => opaquePayload P
  | .sixLowpan => opaquePayload P
  | .reserved14 => opaquePayload P
  | .reserved15 => opaquePayload P
  | .reserved16 => opaquePayload P
  | .reserved17 => opaquePayload P
  | .reserved18 => opaquePayload P
  | .reserved19 => opaquePayload P
  | .reserved1A => opaquePayload P
  | .reserved1B => opaquePayload P
  | .reserved1C => opaquePayload P
  | .reserved1D => opaquePayload P
  | .syslog => syslogPayload P
  | .extended => opaquePayload P

end Sys2Proof.Machine
end

