-- ==== Sys2Proof/Machine/Crc16.lean ====
section
/-!
DEFINITION. The CRC-16/XMODEM of `41_crc16.md` (rules R150 to R154): polynomial 0x1021, initial
value 0, no reflection, final exclusive-or 0 (decision D16), most significant bit first.
-/

namespace Sys2Proof.Machine

/-- One shift of rule R151: bit 15 shifted out selects the exclusive-or with the polynomial. -/
def crcShift (crc : Word16) : Word16 :=
  if crc.getLsbD 15 then (crc <<< 1) ^^^ Config.crcPoly else crc <<< 1

/-- One byte of rule R151: the byte goes into the high half, then eight shifts. -/
def crcByte (crc : Word16) (b : Byte) : Word16 :=
  crcShift (crcShift (crcShift (crcShift (crcShift (crcShift (crcShift (crcShift
    (crc ^^^ (b.setWidth 16 <<< 8)))))))))

/-- `crc16(M)` of rule R151, for a byte sequence of any length. -/
def crc16 (M : List Byte) : Word16 :=
  M.foldl crcByte Config.crcInit

/-- The CRC trailer of rule R85: two bytes, high byte first. -/
def crcTrailer (crc : Word16) : List Byte :=
  [crc.extractLsb' 8 8, crc.extractLsb' 0 8]

/-- A frame body followed by its CRC trailer (rule R85). -/
def withTrailer (M : List Byte) : List Byte :=
  M ++ crcTrailer (crc16 M)

end Sys2Proof.Machine
end

