-- ==== Sys2Proof/WellFormed.lean ====
section
/-!
DEFINITION. Which instruction terms the decoder can produce. Every operand field is a bit vector of
the encoding's own width, so one relation is left to check: the decoder's "re-validate `length`
against the recorded frame size" (rule R175).
-/

namespace Sys2Proof

/-- `frame.len() >= header.length + 3`, the sum taken without wrap (rule R175). -/
def FrameFields.wellFormed (f : FrameFields) : Bool :=
  decide (f.length.toNat + Config.lenBias ≤ f.payload.length + Config.minDecodable)

/-- A symbol or signal is always well-formed; a frame instruction is when its length byte fits. -/
def Instr.wellFormed (i : Instr) : Bool :=
  match i.frame? with
  | none => true
  | some (_, f) => f.wellFormed

end Sys2Proof
end

