-- ==== Sys2Proof/Decode.lean ====
section
/-!
DEFINITION. From inputs to instructions, and back. A symbol byte selects `BIT` or `SYNC` by its sync
flag (rule R80); a frame goes through the decoder's three checks and its header parse, and its 5-bit
type selects the instruction (rules R172 to R178). Decoding is total: an input that gives no
instruction is rejected by the name of the error it raises. After it the encoder, from the same
tables.
-/

namespace Sys2Proof

open Sys2Proof.Machine

/-- The opcode map of rule R86: the frame type of the 5-bit type field. The last arm is index 31, the
only 5-bit value left; no index falls through to a neighbour (`frameType_bits_ofBits` in `Laws`). -/
def FrameType.ofBits (t : BitVec 5) : FrameType :=
  match t.toNat with
  | 0 => .beacon
  | 1 => .beaconReq
  | 2 => .poll
  | 3 => .ack
  | 4 => .regReq
  | 5 => .deregReq
  | 6 => .regAck
  | 7 => .reserved07
  | 8 => .reserved08
  | 9 => .reserved09
  | 10 => .reserved0A
  | 11 => .reserved0B
  | 12 => .reserved0C
  | 13 => .reserved0D
  | 14 => .reserved0E
  | 15 => .reserved0F
  | 16 => .rawData
  | 17 => .tinyhan
  | 18 => .mqttSn
  | 19 => .sixLowpan
  | 20 => .reserved14
  | 21 => .reserved15
  | 22 => .reserved16
  | 23 => .reserved17
  | 24 => .reserved18
  | 25 => .reserved19
  | 26 => .reserved1A
  | 27 => .reserved1B
  | 28 => .reserved1C
  | 29 => .reserved1D
  | 30 => .syslog
  | _ => .extended

/-- The type field of a frame type (rule R86). -/
def FrameType.bits (t : FrameType) : BitVec 5 :=
  match t with
  | .beacon => 0#5
  | .beaconReq => 1#5
  | .poll => 2#5
  | .ack => 3#5
  | .regReq => 4#5
  | .deregReq => 5#5
  | .regAck => 6#5
  | .reserved07 => 7#5
  | .reserved08 => 8#5
  | .reserved09 => 9#5
  | .reserved0A => 10#5
  | .reserved0B => 11#5
  | .reserved0C => 12#5
  | .reserved0D => 13#5
  | .reserved0E => 14#5
  | .reserved0F => 15#5
  | .rawData => 16#5
  | .tinyhan => 17#5
  | .mqttSn => 18#5
  | .sixLowpan => 19#5
  | .reserved14 => 20#5
  | .reserved15 => 21#5
  | .reserved16 => 22#5
  | .reserved17 => 23#5
  | .reserved18 => 24#5
  | .reserved19 => 25#5
  | .reserved1A => 26#5
  | .reserved1B => 27#5
  | .reserved1C => 28#5
  | .reserved1D => 29#5
  | .syslog => 30#5
  | .extended => 31#5

/-- The instruction of a symbol byte (rule R80). -/
def decodeSymbol (y : Byte) : Instr :=
  if symSync y then .sync (symIgnored y) (symData y) else .bit (symIgnored y) (symData y)

/-- The semantic flags byte of a frame: offset 1, or offset 2 under `FLAGS_ORDER = BE` (rule R53). -/
def flagsOf (o : ByteOrder) (F : List Byte) : Byte :=
  match o with
  | .le => byteAt F 1
  | .be => byteAt F 2

/-- The ignored byte of the flags field: offset 2, or offset 1 under `FLAGS_ORDER = BE` (rule R53). -/
def flagsHiOf (o : ByteOrder) (F : List Byte) : Byte :=
  match o with
  | .le => byteAt F 2
  | .be => byteAt F 1

/-- The header and payload of a frame of 9 bytes or more (rules R60, R174, R176, R177). -/
def fieldsOf (o : ByteOrder) (F : List Byte) : FrameFields where
  length := byteAt F 0
  dp := flagDP (flagsOf o F)
  ar := flagAR (flagsOf o F)
  bit5 := flagBit5 (flagsOf o F)
  flagsHi := flagsHiOf o F
  net := byteAt F 3
  dest := byteAt F 4
  src := byteAt F 5
  seq := byteAt F 6
  payload := memRead F Config.hdrSize (F.length - Config.minDecodable)

/-- The decoder up to the dispatch, in the order of its steps (rules R172 to R177, R180): the length
floor, the CRC over all bytes but the last two, the length byte against the real length, then the
type and the fields. -/
def parseFrame (p : Params) (F : List Byte) : Except DecodeError (FrameType × FrameFields) :=
  let n := F.length
  if n < Config.minDecodable then .error (.frameTooShort n)
  else
    let computed := crc16 (memRead F 0 (n - Config.crcSize))
    let received := be16 F (n - Config.crcSize)
    if computed ≠ received then .error (.crcError computed received)
    else if n < (byteAt F 0).toNat + Config.lenBias then .error (.payloadTooShort (byteAt F 0) n)
    else .ok (FrameType.ofBits (typeBits (flagsOf p.flagsOrder F)), fieldsOf p.flagsOrder F)

/-- The instruction of a frame: its type's, with its fields (rule R178). -/
def decodeFrame (p : Params) (F : List Byte) : Except DecodeError Instr :=
  match parseFrame p F with
  | .error e => .error e
  | .ok (t, f) => .ok (Instr.ofFrame t f)

/-- The instruction of an input (rules R80, R81): `RESET` beats what arrives with it (rule R288). -/
def decodeInput (p : Params) (x : Input) : Except DecodeError Instr :=
  match x with
  | .stream (.symbol y) => .ok (decodeSymbol y)
  | .stream .eos => .ok .eos
  | .reset _ => .ok .reset
  | .frame F => decodeFrame p F

/-- The symbol byte with the given ignored bits, sync flag and data bit (rule R80). -/
def symbolByte (ignored : BitVec 6) (s d : Bool) : Byte :=
  ignored ++ (BitVec.ofBool s ++ BitVec.ofBool d)

/-- The semantic flags byte: DP, AR, bit 5, type (rule R84). -/
def flagsByte (t : FrameType) (f : FrameFields) : Byte :=
  BitVec.ofBool f.dp ++ (BitVec.ofBool f.ar ++ (BitVec.ofBool f.bit5 ++ t.bits))

/-- The two bytes of the flags field in frame order (rule R53). -/
def flagsField (o : ByteOrder) (t : FrameType) (f : FrameFields) : List Byte :=
  match o with
  | .le => [flagsByte t f, f.flagsHi]
  | .be => [f.flagsHi, flagsByte t f]

/-- The 7-byte MAC header (rule R84). -/
def header (o : ByteOrder) (t : FrameType) (f : FrameFields) : List Byte :=
  f.length :: (flagsField o t f ++ [f.net, f.dest, f.src, f.seq])

/-- The whole frame: header, payload, CRC trailer (rules R60, R85). -/
def encodeFrame (p : Params) (t : FrameType) (f : FrameFields) : List Byte :=
  withTrailer (header p.flagsOrder t f ++ f.payload)

/-- The input that carries an instruction, from the tables of `30_encoding.md`. -/
def encode (p : Params) (i : Instr) : Input :=
  match i with
  | .bit ig d => .stream (.symbol (symbolByte ig false d))
  | .sync ig d => .stream (.symbol (symbolByte ig true d))
  | .eos => .stream .eos
  | .reset => .reset none
  | .beacon f => .frame (encodeFrame p .beacon f)
  | .beaconReq f => .frame (encodeFrame p .beaconReq f)
  | .poll f => .frame (encodeFrame p .poll f)
  | .ack f => .frame (encodeFrame p .ack f)
  | .regReq f => .frame (encodeFrame p .regReq f)
  | .deregReq f => .frame (encodeFrame p .deregReq f)
  | .regAck f => .frame (encodeFrame p .regAck f)
  | .reserved07 f => .frame (encodeFrame p .reserved07 f)
  | .reserved08 f => .frame (encodeFrame p .reserved08 f)
  | .reserved09 f => .frame (encodeFrame p .reserved09 f)
  | .reserved0A f => .frame (encodeFrame p .reserved0A f)
  | .reserved0B f => .frame (encodeFrame p .reserved0B f)
  | .reserved0C f => .frame (encodeFrame p .reserved0C f)
  | .reserved0D f => .frame (encodeFrame p .reserved0D f)
  | .reserved0E f => .frame (encodeFrame p .reserved0E f)
  | .reserved0F f => .frame (encodeFrame p .reserved0F f)
  | .rawData f => .frame (encodeFrame p .rawData f)
  | .tinyhan f => .frame (encodeFrame p .tinyhan f)
  | .mqttSn f => .frame (encodeFrame p .mqttSn f)
  | .sixLowpan f => .frame (encodeFrame p .sixLowpan f)
  | .reserved14 f => .frame (encodeFrame p .reserved14 f)
  | .reserved15 f => .frame (encodeFrame p .reserved15 f)
  | .reserved16 f => .frame (encodeFrame p .reserved16 f)
  | .reserved17 f => .frame (encodeFrame p .reserved17 f)
  | .reserved18 f => .frame (encodeFrame p .reserved18 f)
  | .reserved19 f => .frame (encodeFrame p .reserved19 f)
  | .reserved1A f => .frame (encodeFrame p .reserved1A f)
  | .reserved1B f => .frame (encodeFrame p .reserved1B f)
  | .reserved1C f => .frame (encodeFrame p .reserved1C f)
  | .reserved1D f => .frame (encodeFrame p .reserved1D f)
  | .syslog f => .frame (encodeFrame p .syslog f)
  | .extended f => .frame (encodeFrame p .extended f)

/-- The shortest frame whose flags byte is `w`: every other header byte zero, no payload, and the
trailer that the CRC rule asks for (log entry 8). A length byte of 0 passes rule R175. -/
def tableFrame (o : ByteOrder) (w : Byte) : List Byte :=
  withTrailer <|
    match o with
    | .le => [0#8, w, 0#8, 0#8, 0#8, 0#8, 0#8]
    | .be => [0#8, 0#8, w, 0#8, 0#8, 0#8, 0#8]

/-- The instruction this decoder reads from the 8 bits of a row of `spec/opcode_table.json`. The rows
of format SYMBOL and of format FRAME number the same 8 bits twice (`BIT` with data 0 and `BEACON` are
both 0x00); a word by itself is read as the FRAME rows' flags byte, laid out in the frame that carries
it, and given to `decodeFrame` (log entry 8). The rows of format OOB have no bits. -/
def decodeTableWord (nbits w : Nat) : Option Instr :=
  if nbits = 8 ∧ w < 256 then
    match decodeFrame Config.defaultParams (tableFrame .le (BitVec.ofNat 8 w)) with
    | .ok i => some i
    | .error _ => none
  else none

end Sys2Proof
end

