-- ==== Sys2Proof/Machine/Render.lean ====
section
/-!
DEFINITION. The one line of text per frame (`44_rendering.md`): `render`, from a decode record to the
characters of its line.
-/

namespace Sys2Proof.Machine

/-- One upper-case hexadecimal digit (rule R251). -/
def hexDigit (n : Nat) : Char :=
  if n < 10 then Char.ofNat (48 + n) else Char.ofNat (55 + n)

/-- `n` as exactly `k` upper-case hexadecimal digits, most significant first (rules R251, R256, R263). -/
def hexDigits (k n : Nat) : Line :=
  match k with
  | 0 => []
  | k + 1 => hexDigits k (n / 16) ++ [hexDigit (n % 16)]

/-- A byte as two digits, the `02X` form (rule R251). -/
def hex2 (b : Byte) : Line := hexDigits 2 b.toNat

/-- A 16-bit value as four digits, the `04X` form (rule R263). -/
def hex4 (v : Word16) : Line := hexDigits 4 v.toNat

/-- A 64-bit value as sixteen digits, the `016X` form (section 2 of `44_rendering.md`). -/
def hex16 (v : Word64) : Line := hexDigits 16 v.toNat

/-- A value in decimal without leading zeros or sign (section 2 of `44_rendering.md`). -/
def decimal (n : Nat) : Line := Nat.toDigits 10 n

/-- Pieces joined by single spaces. -/
def joinSpaces (tokens : List Line) : Line :=
  match tokens with
  | [] => []
  | [t] => t
  | t :: u :: rest => t ++ ' ' :: joinSpaces (u :: rest)

/-- Text right-justified in `w` columns; never cut (rule R253). -/
def padLeft (w : Nat) (l : Line) : Line := List.replicate (w - l.length) ' ' ++ l

/-- The placeholder name of a reserved type index (rule R254, decision D10). -/
def reservedName (t : FrameType) : Line :=
  "RESERVED".toList ++ hexDigits 2 t.bits.toNat

/-- The name table of rules R86, R253 and R254. -/
def typeName (t : FrameType) : Line :=
  match t with
  | .beacon => "BEACON".toList
  | .beaconReq => "BEACON_REQ".toList
  | .poll => "POLL".toList
  | .ack => "ACK".toList
  | .regReq => "REG_REQ".toList
  | .deregReq => "DEREG_REQ".toList
  | .regAck => "REG_ACK".toList
  | .reserved07 => reservedName .reserved07
  | .reserved08 => reservedName .reserved08
  | .reserved09 => reservedName .reserved09
  | .reserved0A => reservedName .reserved0A
  | .reserved0B => reservedName .reserved0B
  | .reserved0C => reservedName .reserved0C
  | .reserved0D => reservedName .reserved0D
  | .reserved0E => reservedName .reserved0E
  | .reserved0F => reservedName .reserved0F
  | .rawData => "RAW_DATA".toList
  | .tinyhan => "TINYHAN".toList
  | .mqttSn => "MQTT-SN".toList
  | .sixLowpan => "6LOWPAN".toList
  | .reserved14 => reservedName .reserved14
  | .reserved15 => reservedName .reserved15
  | .reserved16 => reservedName .reserved16
  | .reserved17 => reservedName .reserved17
  | .reserved18 => reservedName .reserved18
  | .reserved19 => reservedName .reserved19
  | .reserved1A => reservedName .reserved1A
  | .reserved1B => reservedName .reserved1B
  | .reserved1C => reservedName .reserved1C
  | .reserved1D => reservedName .reserved1D
  | .syslog => "SYSLOG".toList
  | .extended => "EXTENDED".toList

/-- The names printed for `reason` (rule R258). -/
def reasonText (r : ReasonName) : Line :=
  match r with
  | .user => "USER".toList
  | .power => "POWER".toList
  | .unknown => "UNKNOWN".toList

/-- The names printed for `status` (rule R259). -/
def statusText (n : StatusName) : Line :=
  match n with
  | .ok => "OK".toList
  | .denied => "DENIED".toList
  | .full => "FULL".toList
  | .shutdown => "SHUTDOWN".toList
  | .admin => "ADMIN".toList
  | .addressInvalid => "ADDRESS_INVALID".toList
  | .unknown => "UNKNOWN".toList

/-- A token that is present only when its condition holds. -/
def tokenIf (c : Bool) (t : Line) : List Line := if c then [t] else []

/-- The token `UUID=` with sixteen digits. -/
def uuidToken (uuid : Word64) : Line := "UUID=".toList ++ hex16 uuid

/-- A hex dump: two digits a byte, single spaces between (rule R261, decision D7). -/
def hexDump (bytes : List Byte) : Line := joinSpaces (bytes.map hex2)

/-- SYSLOG text: the character whose code point is the byte (rule R262, decision D8). -/
def textOf (bytes : List Byte) : Line := bytes.map fun b => Char.ofNat b.toNat

/-- `payload_rendering`, by the body of the record only (rules R255 to R262). -/
def payloadText (b : Body) : Line :=
  match b with
  | .beacon uuid timestamp _ interval sync permitAttach =>
    joinSpaces <|
      [uuidToken uuid, "TIMESTAMP=".toList ++ decimal timestamp.toNat,
        "INTERVAL=".toList ++ decimal interval.toNat]
      ++ tokenIf sync "SYNC".toList ++ tokenIf permitAttach "PERMIT_ATTACH".toList
  | .regReq uuid _ _ secs sleepy =>
    joinSpaces <|
      [uuidToken uuid, "HEARTBEAT=".toList ++ decimal secs.toNat ++ " secs".toList]
      ++ tokenIf sleepy "(SLEEPY)".toList
  | .deregReq uuid _ name => joinSpaces [uuidToken uuid, "REASON=".toList ++ reasonText name]
  | .regAck uuid addr _ name =>
    joinSpaces
      [uuidToken uuid, "ADDR=".toList ++ hex2 addr, "STATUS=".toList ++ statusText name]
  | .noDetail => []
  | .hex bytes => hexDump bytes
  | .text bytes => textOf bytes

/-- The two-letter tag of a header flag, or two spaces (rule R252). -/
def flagTag (c : Bool) (tag : Line) : Line := if c then tag else [' ', ' ']

/-- The line of a `Decoded` record (rule R250). -/
def decodedLine (d : Decoded) : Line :=
  "[".toList ++ hex2 d.net ++ "] ".toList ++ hex2 d.src ++ "->".toList ++ hex2 d.dest
    ++ " (".toList ++ hex2 d.seq ++ ") ".toList ++ flagTag d.ar "AR".toList ++ " ".toList
    ++ flagTag d.dp "DP".toList ++ " : ".toList
    ++ padLeft Config.typeNameWidth (typeName d.frameType) ++ " : ".toList ++ payloadText d.body

/-- The line of an `Error` record (rule R263, decision D12). -/
def errorLine (e : DecodeError) : Line :=
  match e with
  | .frameTooShort n =>
    "FrameTooShort: ".toList ++ decimal n ++ " bytes, need at least 9".toList
  | .crcError computed received =>
    "CrcError: computed ".toList ++ hex4 computed ++ ", received ".toList ++ hex4 received
  | .payloadTooShort L n =>
    "PayloadTooShort: length byte ".toList ++ hex2 L ++ " needs ".toList
      ++ decimal (L.toNat + Config.lenBias) ++ " bytes, frame has ".toList ++ decimal n

/-- `render` (rules R250, R263, R265): every record has exactly one line. -/
def render (r : DecodeResult) : Line :=
  match r with
  | .decoded d => decodedLine d
  | .error e => errorLine e

end Sys2Proof.Machine
end

