-- ==== Sys2Proof/Machine/Decoder.lean ====
section
/-!
DEFINITION. The MAC Decoder as the pure function of rule R170: from a frame to its decode record, and
from a record to the report that the block puts out.
-/

namespace Sys2Proof.Machine

/-- The `Decoded` record of a checked frame and its dispatched body (rule R171). -/
def decodedRecord (t : FrameType) (f : FrameFields) (b : Body × Bool) : DecodeResult :=
  .decoded
    { length := f.length, flags := flagsByte t f, flagsHi := f.flagsHi, net := f.net,
      dest := f.dest, src := f.src, seq := f.seq, frameType := t, ar := f.ar, dp := f.dp,
      payload := f.payload, body := b.1, fallback := b.2 }

/-- `decode(F)` of `42_mac_parser.md` section 2: an `Error` record where a check fails, else the
`Decoded` record of the dispatched payload. -/
def decodeResult (p : Params) (F : List Byte) : DecodeResult :=
  match parseFrame p F with
  | .error e => .error e
  | .ok (t, f) => decodedRecord t f (dispatch p t f.payload)

/-- What the block puts out for a record: the record itself, its code, its line (R179, R280). -/
def reportOf (r : DecodeResult) : Report where
  record := r
  status := r.errorName.code
  line := render r

end Sys2Proof.Machine
end

