-- ==== Sys2Proof/Machine/Memory.lean ====
section
/-!
DEFINITION. The BUF space and its operations (rules R33, R50, R58, R66).
-/

namespace Sys2Proof.Machine

/-- The BUF space (rules R33, R50): a byte sequence addressed by offset from 0. It is its own canonical
form: equal contents are equal lists (log entry 5). -/
abbrev Memory := List Byte

/-- The byte of BUF at an offset; none where the buffer holds no byte. -/
def Memory.read (m : Memory) (o : Nat) : Option Byte := m[o]?

/-- The only store: `MemWrite(len(buffer), 1, b)`, an append (rule R66). -/
def Memory.append (m : Memory) (b : Byte) : Memory := m ++ [b]

/-- BUF is within its 258 bytes (rule R27). -/
def Memory.wf (m : Memory) : Bool := decide (m.length ≤ Config.bufCapacity)

end Sys2Proof.Machine
end

