-- ==== Sys2Proof/Machine/State.lean ====
section
/-!
DEFINITION. The machine's state: the seven registers of rule R20, the ports of the block (decision D4)
and the open parameters, as plain data; the reasons a step can stop; the state after reset (rule R36).
-/

namespace Sys2Proof.Machine

/-- The state of the block. -/
structure State where
  /-- The shift register (rule R21). -/
  sr : Byte
  /-- The state SYNCED (rule R22). -/
  synced : Bool
  /-- The data bits taken since the last byte boundary (rule R23). -/
  bitCount : BitVec 3
  /-- The bytes appended since the last sync pulse (rule R24). -/
  byteCount : Word32
  /-- The total size of the frame being assembled, 0 before its length byte (rule R25). -/
  declaredLength : Word32
  /-- The accumulation buffer (rule R26). -/
  buffer : Memory
  /-- The end-of-stream signal was taken (rule R128, decision D20). -/
  closed : Bool
  /-- The open build-time parameters; written by nothing (log entry 4). -/
  params : Params
  /-- The input events delivered and not yet taken, oldest first (log entry 1). -/
  input : List Input
  /-- The Raw Frames emitted so far, oldest first (log entry 3). -/
  frames : List (List Byte)
  /-- The reports put out so far, oldest first (log entry 3). -/
  reports : List Report
deriving DecidableEq, Repr

/-- Why the machine would stop with a fault. There is no constructor: the block "is total" (rule R322),
no symbol is an error (R286), and every error of a frame is a record and a line (R289). -/
inductive Fault where
deriving DecidableEq, Repr

/-- Why a step would give an instruction no meaning. -/
inductive Refusal where
  /-- Answered only by an arm of `exec` whose instruction has no meaning yet; there is none. Safe: the
  machine stops where the hardware goes on. -/
  | notModelled (mnemonic : String)
deriving DecidableEq, Repr

/-- The machine right after reset (rule R36): UNSYNCED, everything else zero or empty, not closed. The
parameters have their defaults and the ports are empty (log entries 1, 3, 4). -/
def State.reset : State where
  sr := 0#8
  synced := false
  bitCount := 0#3
  byteCount := 0#32
  declaredLength := 0#32
  buffer := []
  closed := false
  params := Config.defaultParams
  input := []
  frames := []
  reports := []

end Sys2Proof.Machine
end

