-- ==== Sys2Proof/Machine/Ops.lean ====
section
/-!
DEFINITION. The named operations over the state: the sub-steps of a symbol (rules R120 to R125), the
hand-over of a frame to the decoder, taking an error (rule R289), and fetching the next input.
-/

namespace Sys2Proof.Machine

/-- Sub-step 1 (rule R121): `sr <- ((sr << 1) | d) & 0xFF`. -/
def State.shift (d : Bool) (s : State) : State :=
  { s with sr := (s.sr <<< 1) ||| (BitVec.ofBool d).setWidth 8 }

/-- Sub-step 2 of a sync pulse (rule R122): counters, length and buffer cleared, SYNCED; `sr` stays. -/
def State.syncReset (s : State) : State :=
  { s with bitCount := 0#3, byteCount := 0#32, declaredLength := 0#32, buffer := [], synced := true }

/-- A data bit that does not fill a byte (rule R123). -/
def State.countBit (s : State) : State :=
  { s with bitCount := s.bitCount + 1#3 }

/-- The eighth data bit (rules R123, R66): `sr` is appended to the buffer. -/
def State.appendByte (s : State) : State :=
  { s with buffer := s.buffer.append s.sr, bitCount := 0#3, byteCount := s.byteCount + 1#32 }

/-- The length latch (rule R124): the first byte of a frame, zero-extended, plus 3. -/
def State.latchLength (s : State) : State :=
  { s with
    declaredLength :=
      if s.byteCount = 1#32 then s.sr.setWidth 32 + BitVec.ofNat 32 Config.lenBias
      else s.declaredLength }

/-- The completion test (rule R125). -/
def State.frameComplete (s : State) : Bool :=
  decide (0#32 < s.declaredLength) && decide (s.byteCount = s.declaredLength)

/-- What completion resets (rule R125): `synced` and `byte_count`; the rest keeps its value (R34). -/
def State.endFrame (s : State) : State :=
  { s with synced := false, byteCount := 0#32 }

/-- Append, latch, complete (rules R123 to R125): the state, and the frame that is emitted if any. -/
def State.takeByte (s : State) : State × Option (List Byte) :=
  let s := s.appendByte.latchLength
  if s.frameComplete then (s.endFrame, some s.buffer) else (s, none)

/-- Sub-step 3 (rules R123 to R125): nothing while UNSYNCED; the count of 8 is never stored (C5). -/
def State.count (s : State) : State × Option (List Byte) :=
  if s.synced then
    if s.bitCount.toNat + 1 = 8 then s.takeByte else (s.countBit, none)
  else (s, none)

/-- `sync_step` of rule R120, for a block that is not closed: shift, sync reset, count. -/
def State.syncStep (sync d : Bool) (s : State) : State × Option (List Byte) :=
  (if sync then (s.shift d).syncReset else s.shift d).count

/-- The report of one decode goes out (rules R179, R264): one record, one code, one line. -/
def State.report (r : DecodeResult) (s : State) : State :=
  { s with reports := s.reports ++ [reportOf r] }

/-- `emit(frame)`: the Raw Frame goes out, as a value (rules R59, R125). -/
def State.emit (F : List Byte) (s : State) : State :=
  { s with frames := s.frames ++ [F] }

/-- TAKING AN EXCEPTION: an error of a frame's decode (rule R289). It saves nothing, changes no
register, enters no handler: it replaces the result of that frame by an `Error` record and its line.
There is no return operation, "because nothing was entered" (rule R290). -/
def raiseError (e : DecodeError) (s : State) : State :=
  s.report (.error e)

/-- The hand-over of an emitted frame in the step of its last symbol (rules R59, R125, R330): the Raw
Frame, then its decode record and line. -/
def deliver (F : List Byte) (s : State) : State :=
  match parseFrame s.params F with
  | .error e => raiseError e (s.emit F)
  | .ok (t, f) => (s.emit F).report (decodedRecord t f (dispatch s.params t f.payload))

/-- One symbol taken by an open block (rules R120, R330). -/
def takeSymbol (sync d : Bool) (s : State) : State :=
  match s.syncStep sync d with
  | (t, none) => t
  | (t, some F) => deliver F t

/-- One symbol offered to the block (rules R120, R128): "`sync_step` has no step while `closed`", the
symbol is refused with no effect (I16, log entry 6). -/
def offerSymbol (sync d : Bool) (s : State) : State :=
  if s.closed then s else takeSymbol sync d s

/-- `EOS` taken (rule R128). Taken while closed it is refused with no effect, which is the same state. -/
def State.close (s : State) : State :=
  { s with closed := true }

/-- `RESET` (rules R129, R36): every register takes its reset value. The ports and the parameters are
not registers and stay as they are; nothing is emitted (log entry 9). -/
def State.resetRegisters (s : State) : State :=
  { s with
    sr := State.reset.sr, synced := State.reset.synced, bitCount := State.reset.bitCount,
    byteCount := State.reset.byteCount, declaredLength := State.reset.declaredLength,
    buffer := State.reset.buffer, closed := State.reset.closed }

/-- The state whose input is what follows the event just taken (rule R61). -/
def State.setInput (rest : List Input) (s : State) : State :=
  { s with input := rest }

/-- The next input event, oldest first, each taken exactly once (rules R50, R61); none while the block
waits (rule R131). -/
def fetch (s : State) : Option (Input × State) :=
  match s.input with
  | [] => none
  | x :: rest => some (x, s.setInput rest)

end Sys2Proof.Machine
end

