-- ==== Sys2Proof/Machine/OpaqueFrames.lean ====
section
/-!
DEFINITION. The opaque frames: the 19 reserved indices, RAW_DATA, TINYHAN, MQTT-SN, 6LOWPAN and EXTENDED (rules
R209 to R231, R233). Each puts
out the report of its frame and writes no register (rules R182, R234).
-/

namespace Sys2Proof.Machine

/-- Type 7, `RESERVED07` (rule R209). -/
def execReserved07 (f : FrameFields) (s : State) : Host.Outcome State Fault Refusal :=
  .next (s.report (decodedRecord .reserved07 f (opaquePayload f.payload)))

/-- Type 8, `RESERVED08` (rule R210). -/
def execReserved08 (f : FrameFields) (s : State) : Host.Outcome State Fault Refusal :=
  .next (s.report (decodedRecord .reserved08 f (opaquePayload f.payload)))

/-- Type 9, `RESERVED09` (rule R211). -/
def execReserved09 (f : FrameFields) (s : State) : Host.Outcome State Fault Refusal :=
  .next (s.report (decodedRecord .reserved09 f (opaquePayload f.payload)))

/-- Type 10, `RESERVED0A` (rule R212). -/
def execReserved0A (f : FrameFields) (s : State) : Host.Outcome State Fault Refusal :=
  .next (s.report (decodedRecord .reserved0A f (opaquePayload f.payload)))

/-- Type 11, `RESERVED0B` (rule R213). -/
def execReserved0B (f : FrameFields) (s : State) : Host.Outcome State Fault Refusal :=
  .next (s.report (decodedRecord .reserved0B f (opaquePayload f.payload)))

/-- Type 12, `RESERVED0C` (rule R214). -/
def execReserved0C (f : FrameFields) (s : State) : Host.Outcome State Fault Refusal :=
  .next (s.report (decodedRecord .reserved0C f (opaquePayload f.payload)))

/-- Type 13, `RESERVED0D` (rule R215). -/
def execReserved0D (f : FrameFields) (s : State) : Host.Outcome State Fault Refusal :=
  .next (s.report (decodedRecord .reserved0D f (opaquePayload f.payload)))

/-- Type 14, `RESERVED0E` (rule R216). -/
def execReserved0E (f : FrameFields) (s : State) : Host.Outcome State Fault Refusal :=
  .next (s.report (decodedRecord .reserved0E f (opaquePayload f.payload)))

/-- Type 15, `RESERVED0F` (rule R217). -/
def execReserved0F (f : FrameFields) (s : State) : Host.Outcome State Fault Refusal :=
  .next (s.report (decodedRecord .reserved0F f (opaquePayload f.payload)))

/-- Type 16, `RAW_DATA` (rule R218). -/
def execRawData (f : FrameFields) (s : State) : Host.Outcome State Fault Refusal :=
  .next (s.report (decodedRecord .rawData f (opaquePayload f.payload)))

/-- Type 17, `TINYHAN` (rule R219). -/
def execTinyhan (f : FrameFields) (s : State) : Host.Outcome State Fault Refusal :=
  .next (s.report (decodedRecord .tinyhan f (opaquePayload f.payload)))

/-- Type 18, `MQTT-SN` (rule R220). -/
def execMqttSn (f : FrameFields) (s : State) : Host.Outcome State Fault Refusal :=
  .next (s.report (decodedRecord .mqttSn f (opaquePayload f.payload)))

/-- Type 19, `6LOWPAN` (rule R221). -/
def execSixLowpan (f : FrameFields) (s : State) : Host.Outcome State Fault Refusal :=
  .next (s.report (decodedRecord .sixLowpan f (opaquePayload f.payload)))

/-- Type 20, `RESERVED14` (rule R222). -/
def execReserved14 (f : FrameFields) (s : State) : Host.Outcome State Fault Refusal :=
  .next (s.report (decodedRecord .reserved14 f (opaquePayload f.payload)))

/-- Type 21, `RESERVED15` (rule R223). -/
def execReserved15 (f : FrameFields) (s : State) : Host.Outcome State Fault Refusal :=
  .next (s.report (decodedRecord .reserved15 f (opaquePayload f.payload)))

/-- Type 22, `RESERVED16` (rule R224). -/
def execReserved16 (f : FrameFields) (s : State) : Host.Outcome State Fault Refusal :=
  .next (s.report (decodedRecord .reserved16 f (opaquePayload f.payload)))

/-- Type 23, `RESERVED17` (rule R225). -/
def execReserved17 (f : FrameFields) (s : State) : Host.Outcome State Fault Refusal :=
  .next (s.report (decodedRecord .reserved17 f (opaquePayload f.payload)))

/-- Type 24, `RESERVED18` (rule R226). -/
def execReserved18 (f : FrameFields) (s : State) : Host.Outcome State Fault Refusal :=
  .next (s.report (decodedRecord .reserved18 f (opaquePayload f.payload)))

/-- Type 25, `RESERVED19` (rule R227). -/
def execReserved19 (f : FrameFields) (s : State) : Host.Outcome State Fault Refusal :=
  .next (s.report (decodedRecord .reserved19 f (opaquePayload f.payload)))

/-- Type 26, `RESERVED1A` (rule R228). -/
def execReserved1A (f : FrameFields) (s : State) : Host.Outcome State Fault Refusal :=
  .next (s.report (decodedRecord .reserved1A f (opaquePayload f.payload)))

/-- Type 27, `RESERVED1B` (rule R229). -/
def execReserved1B (f : FrameFields) (s : State) : Host.Outcome State Fault Refusal :=
  .next (s.report (decodedRecord .reserved1B f (opaquePayload f.payload)))

/-- Type 28, `RESERVED1C` (rule R230). -/
def execReserved1C (f : FrameFields) (s : State) : Host.Outcome State Fault Refusal :=
  .next (s.report (decodedRecord .reserved1C f (opaquePayload f.payload)))

/-- Type 29, `RESERVED1D` (rule R231). -/
def execReserved1D (f : FrameFields) (s : State) : Host.Outcome State Fault Refusal :=
  .next (s.report (decodedRecord .reserved1D f (opaquePayload f.payload)))

/-- Type 31, `EXTENDED` (rule R233). -/
def execExtended (f : FrameFields) (s : State) : Host.Outcome State Fault Refusal :=
  .next (s.report (decodedRecord .extended f (opaquePayload f.payload)))

end Sys2Proof.Machine
end

