-- ==== Sys2Proof/Machine/StubFrames.lean ====
section
/-!
DEFINITION. The stub frames BEACON_REQ, POLL and ACK (rules R203 to R205): "decoder is an intentional no-op"; an
ACK is "decoded but not acted upon" (rule R234). Each puts
out the report of its frame and writes no register (rules R182, R234).
-/

namespace Sys2Proof.Machine

/-- Type 1, `BEACON_REQ` (rule R203). -/
def execBeaconReq (f : FrameFields) (s : State) : Host.Outcome State Fault Refusal :=
  .next (s.report (decodedRecord .beaconReq f stubPayload))

/-- Type 2, `POLL` (rule R204). -/
def execPoll (f : FrameFields) (s : State) : Host.Outcome State Fault Refusal :=
  .next (s.report (decodedRecord .poll f stubPayload))

/-- Type 3, `ACK` (rule R205). -/
def execAck (f : FrameFields) (s : State) : Host.Outcome State Fault Refusal :=
  .next (s.report (decodedRecord .ack f stubPayload))

end Sys2Proof.Machine
end

