-- ==== Sys2Proof/Machine/Synchronizer.lean ====
section
/-!
DEFINITION. The four inputs of the Frame Synchronizer (`40_synchronizer.md` section 2).
-/

namespace Sys2Proof.Machine

/-- `BIT d` (rule R126). The ignored symbol bits have no effect (rules R80, R136). -/
def execBit (_ignored : BitVec 6) (d : Bool) (s : State) : Host.Outcome State Fault Refusal :=
  .next (offerSymbol false d s)

/-- `SYNC d` (rule R127). The ignored symbol bits have no effect (rules R80, R136). -/
def execSync (_ignored : BitVec 6) (d : Bool) (s : State) : Host.Outcome State Fault Refusal :=
  .next (offerSymbol true d s)

/-- `EOS` (rule R128). -/
def execEos (s : State) : Host.Outcome State Fault Refusal :=
  .next s.close

/-- `RESET` (rule R129). -/
def execReset (s : State) : Host.Outcome State Fault Refusal :=
  .next s.resetRegisters

end Sys2Proof.Machine
end

