-- ==== Sys2Proof/Machine/TextFrames.lean ====
section
/-!
DEFINITION. The text frame SYSLOG (rule R232). Each puts
out the report of its frame and writes no register (rules R182, R234).
-/

namespace Sys2Proof.Machine

/-- Type 30, `SYSLOG` (rule R232). -/
def execSyslog (f : FrameFields) (s : State) : Host.Outcome State Fault Refusal :=
  .next (s.report (decodedRecord .syslog f (syslogPayload f.payload)))

end Sys2Proof.Machine
end

