-- ==== Sys2Proof/Machine/TypedFrames.lean ====
section
/-!
DEFINITION. The typed frames BEACON, REG_REQ, DEREG_REQ and REG_ACK (rules R202, R206 to R208). Each puts
out the report of its frame and writes no register (rules R182, R234).
-/

namespace Sys2Proof.Machine

/-- Type 0, `BEACON` (rule R202). -/
def execBeacon (f : FrameFields) (s : State) : Host.Outcome State Fault Refusal :=
  .next (s.report (decodedRecord .beacon f (beaconPayload s.params f.payload)))

/-- Type 4, `REG_REQ` (rule R206). -/
def execRegReq (f : FrameFields) (s : State) : Host.Outcome State Fault Refusal :=
  .next (s.report (decodedRecord .regReq f (regReqPayload s.params f.payload)))

/-- Type 5, `DEREG_REQ` (rule R207). -/
def execDeregReq (f : FrameFields) (s : State) : Host.Outcome State Fault Refusal :=
  .next (s.report (decodedRecord .deregReq f (deregReqPayload s.params f.payload)))

/-- Type 6, `REG_ACK` (rule R208). -/
def execRegAck (f : FrameFields) (s : State) : Host.Outcome State Fault Refusal :=
  .next (s.report (decodedRecord .regAck f (regAckPayload s.params f.payload)))

end Sys2Proof.Machine
end

