-- ==== Sys2Proof/Machine/Dispatch.lean ====
section
/-!
DEFINITION. The one match over the instructions: one arm per row of `spec/opcode_table.json`.
-/

namespace Sys2Proof.Machine

def exec (i : Instr) (s : State) : Host.Outcome State Fault Refusal :=
  match i with
  | .bit ignored d => Sys2Proof.Machine.execBit ignored d s
  | .sync ignored d => Sys2Proof.Machine.execSync ignored d s
  | .eos => Sys2Proof.Machine.execEos s
  | .reset => Sys2Proof.Machine.execReset s
  | .beacon f => Sys2Proof.Machine.execBeacon f s
  | .beaconReq f => Sys2Proof.Machine.execBeaconReq f s
  | .poll f => Sys2Proof.Machine.execPoll f s
  | .ack f => Sys2Proof.Machine.execAck f s
  | .regReq f => Sys2Proof.Machine.execRegReq f s
  | .deregReq f => Sys2Proof.Machine.execDeregReq f s
  | .regAck f => Sys2Proof.Machine.execRegAck f s
  | .reserved07 f => Sys2Proof.Machine.execReserved07 f s
  | .reserved08 f => Sys2Proof.Machine.execReserved08 f s
  | .reserved09 f => Sys2Proof.Machine.execReserved09 f s
  | .reserved0A f => Sys2Proof.Machine.execReserved0A f s
  | .reserved0B f => Sys2Proof.Machine.execReserved0B f s
  | .reserved0C f => Sys2Proof.Machine.execReserved0C f s
  | .reserved0D f => Sys2Proof.Machine.execReserved0D f s
  | .reserved0E f => Sys2Proof.Machine.execReserved0E f s
  | .reserved0F f => Sys2Proof.Machine.execReserved0F f s
  | .rawData f => Sys2Proof.Machine.execRawData f s
  | .tinyhan f => Sys2Proof.Machine.execTinyhan f s
  | .mqttSn f => Sys2Proof.Machine.execMqttSn f s
  | .sixLowpan f => Sys2Proof.Machine.execSixLowpan f s
  | .reserved14 f => Sys2Proof.Machine.execReserved14 f s
  | .reserved15 f => Sys2Proof.Machine.execReserved15 f s
  | .reserved16 f => Sys2Proof.Machine.execReserved16 f s
  | .reserved17 f => Sys2Proof.Machine.execReserved17 f s
  | .reserved18 f => Sys2Proof.Machine.execReserved18 f s
  | .reserved19 f => Sys2Proof.Machine.execReserved19 f s
  | .reserved1A f => Sys2Proof.Machine.execReserved1A f s
  | .reserved1B f => Sys2Proof.Machine.execReserved1B f s
  | .reserved1C f => Sys2Proof.Machine.execReserved1C f s
  | .reserved1D f => Sys2Proof.Machine.execReserved1D f s
  | .syslog f => Sys2Proof.Machine.execSyslog f s
  | .extended f => Sys2Proof.Machine.execExtended f s

end Sys2Proof.Machine
end

