-- ==== Sys2Proof/Machine/Step.lean ====
section
/-!
DEFINITION. The step: take the next input, decode it, run its instruction; an input that gives no
instruction gives the error the decoder names.
-/

namespace Sys2Proof.Machine

/-- One step of the block. With no input it waits, and "a wait of any length changes nothing" (rule
R131, log entry 10). -/
def step (s : State) : Host.Outcome State Fault Refusal :=
  match fetch s with
  | none => .next s
  | some (x, t) =>
    match decodeInput t.params x with
    | .ok i => exec i t
    | .error e => .next (raiseError e t)

/-- The state whose next step fetches the instruction that `decodeTableWord` reads from the bits of an
opcode-table row: the frame with that flags byte, delivered ahead of all other input (log entries 2
and 8). A word of another width is no row's, and nothing is delivered. -/
def State.withFetchWord (s : State) (nbits w : Nat) : State :=
  if nbits = 8 ∧ w < 256 then
    s.setInput (.frame (tableFrame s.params.flagsOrder (BitVec.ofNat 8 w)) :: s.input)
  else s

end Sys2Proof.Machine
end

