-- ==== Sys2Proof/Safety.lean ====
section
/-!
DEFINITION. What the statements say about a run: the invariant that the spec lists (rule R29), what an
emitted frame looks like (rule R181), the symbols of a frame (`syms` of `00_scope.md` section 6.4),
and running the block over delivered input.
-/

namespace Sys2Proof.Machine

/-- Rule R29 (a) to (e), for a state at rest. `bit_count <= 7` of (e) is the type of the register. -/
abbrev State.Inv (s : State) : Prop :=
  (s.synced = false → s.bitCount = 0#3 ∧ s.byteCount = 0#32) ∧
  (s.synced = true → s.buffer.length = s.byteCount.toNat) ∧
  (s.synced = true → s.byteCount = 0#32 → s.declaredLength = 0#32 ∧ s.buffer = []) ∧
  (s.synced = true → 1 ≤ s.byteCount.toNat →
    s.declaredLength.toNat = (byteAt s.buffer 0).toNat + 3 ∧
      s.byteCount.toNat < s.declaredLength.toNat) ∧
  s.byteCount.toNat ≤ 257 ∧ s.declaredLength.toNat ≤ 258 ∧ s.buffer.length ≤ 258

/-- What the synchronizer emits (rules R132, R138, R181): `F[0] + 3` bytes, 3 to 258. -/
abbrev wellDelimited (F : List Byte) : Prop :=
  F.length = (byteAt F 0).toNat + 3 ∧ 3 ≤ F.length ∧ F.length ≤ 258

/-- The eight data bits of a byte in arrival order, the most significant first (rule R51). -/
def bitsOf (b : Byte) : List Bool :=
  [b.getLsbD 7, b.getLsbD 6, b.getLsbD 5, b.getLsbD 4, b.getLsbD 3, b.getLsbD 2, b.getLsbD 1,
    b.getLsbD 0]

/-- The data bits of a byte sequence in arrival order. -/
def dataBits (F : List Byte) : List Bool := F.flatMap bitsOf

/-- A run of symbols with no sync flag but on the first, whose data bits are those of `F`; the ignored
bits are whatever they are. `syms(F)` of `00_scope.md` section 6.4 is the one with them zero. -/
abbrev carries (ys F : List Byte) : Prop :=
  ys.map symData = dataBits F ∧
    ys.map symSync = true :: List.replicate (ys.length - 1) false

/-- The run of symbols `syms(F)` (`00_scope.md` section 6.4). -/
def syms (F : List Byte) : List Byte :=
  match dataBits F with
  | [] => []
  | d :: ds => symbolByte 0#6 true d :: ds.map (symbolByte 0#6 false)

/-- Symbols as input events. -/
def symbolInputs (ys : List Byte) : List Input := ys.map fun y => .stream (.symbol y)

/-- Whether an input event asserts `RESET`. -/
def Input.isReset (x : Input) : Bool :=
  match x with
  | .reset _ => true
  | .stream _ => false
  | .frame _ => false

/-- Whether an input event is a sync pulse. -/
def Input.isSync (x : Input) : Bool :=
  match x with
  | .stream (.symbol y) => symSync y
  | .stream .eos => false
  | .reset _ => false
  | .frame _ => false

/-- Whether an input event is a frame handed straight to the decoder. -/
def Input.isFrame (x : Input) : Bool :=
  match x with
  | .frame _ => true
  | .stream _ => false
  | .reset _ => false

/-- The value of the `k`-byte field at offset `o` as the sums of `00_scope.md` section 6.1 give it. -/
def fieldValue (ord : ByteOrder) (P : List Byte) (o k : Nat) : Nat :=
  match ord with
  | .le => ((List.range k).map fun i => (byteAt P (o + i)).toNat * 256 ^ i).sum
  | .be => ((List.range k).map fun i => (byteAt P (o + i)).toNat * 256 ^ (k - 1 - i)).sum

/-- The payload is not of a length that a typed decoder of the given layout size takes (rule R201;
under `STRICT_PAYLOAD_LEN` decision D6). -/
abbrev failsLayout (p : Params) (size : Nat) (P : List Byte) : Prop :=
  P.length < size ∨ (p.strictPayloadLen = true ∧ size < P.length)

/-- The header part of a record (rule R171) is that of a frame with these fields and type number. -/
abbrev headerIs (typeNumber : Nat) (f : FrameFields) (d : Decoded) : Prop :=
  d.length = f.length ∧
  d.flags.toNat = 128 * f.dp.toNat + 64 * f.ar.toNat + 32 * f.bit5.toNat + typeNumber ∧
  d.flagsHi = f.flagsHi ∧ d.net = f.net ∧ d.dest = f.dest ∧ d.src = f.src ∧ d.seq = f.seq ∧
  d.frameType.bits.toNat = typeNumber ∧ d.ar = f.ar ∧ d.dp = f.dp ∧ d.payload = f.payload

/-- The instruction completes, puts out the one report of the record `d` (its code is 4 for a fallback
and 0 otherwise, rule R280), and leaves everything else in the state as it is. -/
abbrev reportsOnly (i : Instr) (s : State) (d : Decoded) : Prop :=
  exec i s = .next
    { s with
      reports := s.reports ++
        [{ record := .decoded d, status := if d.fallback then 4 else 0, line := decodedLine d }] }

/-- `k` steps of the block. -/
abbrev run (k : Nat) (s : State) : Host.Outcome State Fault Refusal :=
  Host.Core.run Sys2Proof.core k s

end Sys2Proof.Machine
end

