-- ==== Sys2Proof/Certificates/Slice0/Obligations.lean ====
section
/-!
DEFINITION. The statements about the block, one definition each. Each docstring names the rule of
`spec/` it formalises; where a clause rests on a choice of the model, it names the log entry.
-/

open Sys2Proof Sys2Proof.Machine

/-! ### Encodings -/

/-- Decoding the input that carries a well-formed instruction gives that instruction back, under every
setting of the open parameters. The form of the operands is log entries 13 and 19, and the parameters as
data are log entry 4. -/
def Obligations.DecodeOfEncodeIsTheInstruction : Prop :=
  ∀ (p : Params) (i : Instr), i.wellFormed = true → decodeInput p (encode p i) = .ok i

/-- What decodes to an instruction is its encoding: no bit of a symbol or of an accepted frame, its
trailer included, is lost. A `RESET` that came together with a stream item is the one exception, since
that item is lost (log entry 9). The form of the operands is log entries 13 and 19. -/
def Obligations.EncodeOfDecodeIsTheInput : Prop :=
  ∀ (p : Params) (x : Input) (i : Instr), decodeInput p x = .ok i →
    i.wellFormed = true ∧ ((∀ lost, x ≠ .reset (some lost)) → encode p i = x)

/-- Rule R80: the sync flag, bit 1, selects the operation, bit 0 is its operand, and bits 7:2 have no
effect. -/
def Obligations.SymbolBitsSelectTheOperation : Prop :=
  (∀ (p : Params) (y : Byte), decodeInput p (.stream (.symbol y)) =
    .ok (if y.getLsbD 1 then .sync (y.extractLsb' 2 6) (y.getLsbD 0)
      else .bit (y.extractLsb' 2 6) (y.getLsbD 0))) ∧
  ∀ (ig ig' : BitVec 6) (d : Bool) (s : State),
    exec (.bit ig d) s = exec (.bit ig' d) s ∧ exec (.sync ig d) s = exec (.sync ig' d) s

/-- Rule R136: the step on a symbol is the step on its low two bits. -/
def Obligations.IgnoredSymbolBitsNeverMatter : Prop :=
  ∀ (s : State) (y : Byte) (rest : List Input),
    step { s with input := .stream (.symbol y) :: rest } =
      step { s with input := .stream (.symbol (y &&& 0x03#8)) :: rest }

/-- A few words written out from the encodings of rules R80 and R86, and the vectors V24 and V27. -/
def Obligations.WrittenOutWordsDecode : Prop :=
  decodeInput Config.defaultParams (.stream (.symbol 0x01#8)) = .ok (.bit 0#6 true) ∧
  decodeInput Config.defaultParams (.stream (.symbol 0xFE#8)) = .ok (.sync 0x3F#6 false) ∧
  decodeInput Config.defaultParams
      (.frame [0x06#8, 0x03#8, 0x00#8, 0x01#8, 0x02#8, 0x03#8, 0x2C#8, 0xC7#8, 0xAC#8]) =
    .ok (.ack ⟨0x06#8, false, false, false, 0x00#8, 0x01#8, 0x02#8, 0x03#8, 0x2C#8, []⟩) ∧
  decodeInput Config.defaultParams
      (.frame [0x00#8, 0x10#8, 0x00#8, 0x01#8, 0x02#8, 0x03#8, 0x04#8, 0xDE#8, 0xAD#8, 0xBE#8, 0xEF#8,
        0x30#8, 0x17#8]) =
    .ok (.rawData ⟨0x00#8, false, false, false, 0x00#8, 0x01#8, 0x02#8, 0x03#8, 0x04#8,
      [0xDE#8, 0xAD#8, 0xBE#8, 0xEF#8]⟩)

/-! ### The step -/

/-- When the oldest input decodes to an instruction, the step is that instruction at the state whose
input is the rest. -/
def Obligations.StepRunsTheDecodedInstruction : Prop :=
  ∀ (s : State) (x : Input) (rest : List Input) (i : Instr),
    s.input = x :: rest → decodeInput s.params x = .ok i →
      step s = exec i { s with input := rest }

/-- When a frame handed to the decoder fails a check, the step puts out its `Error` record, the code of
rule R280 and its line, and changes nothing else: no register, no mode, no handler (rule R289). The
codes and the recorded values are the spec's own decisions D12 and D21; a frame handed over by itself is
log entry 7; the code in the report is log entry 12. -/
def Obligations.DecodeErrorReplacesOnlyTheResult : Prop :=
  ∀ (s : State) (x : Input) (rest : List Input) (e : DecodeError),
    s.input = x :: rest → decodeInput s.params x = .error e →
      step s = .next
        { s with
          input := rest
          reports := s.reports ++
            [{ record := .error e
               status := match e with
                 | .frameTooShort _ => 1
                 | .payloadTooShort _ _ => 2
                 | .crcError _ _ => 3
               line := errorLine e }] }

/-- Rule R131: with no symbol there, the block waits, and a wait of any length changes nothing (that the
wait is a step of its own is log entry 10). -/
def Obligations.WaitingChangesNothing : Prop :=
  ∀ (s : State) (k : Nat), s.input = [] → run k s = .next s

/-- The model's step is total: every state has a next state. For a closed block offered a symbol or an
`EOS`, where the spec has no step and refuses the input, that is the model's choice of log entry 6; with
no input it is log entry 10; elsewhere the spec calls the block total. -/
def Obligations.EveryStepCompletes : Prop :=
  ∀ s : State, ∃ t, step s = .next t

/-! ### The Frame Synchronizer -/

/-- Rule R127: a symbol with the sync flag is `SYNC`, and from any state that is not closed its result
is this one. -/
def Obligations.SyncPulseEffect : Prop :=
  (∀ (p : Params) (y : Byte), y.getLsbD 1 = true →
    decodeInput p (.stream (.symbol y)) = .ok (.sync (y.extractLsb' 2 6) (y.getLsbD 0))) ∧
  ∀ (ig : BitVec 6) (d : Bool) (s : State), s.closed = false →
    exec (.sync ig d) s = .next
      { s with
        sr := s.sr.extractLsb' 0 7 ++ BitVec.ofBool d
        synced := true, bitCount := 1#3, byteCount := 0#32, declaredLength := 0#32, buffer := [] }

/-- By `40_synchronizer.md` sections 1 and 2: a symbol without the sync flag is `BIT`, and what it does
in a block that is not closed: shift; while SYNCED count; on the eighth bit append `sr`, latch the
length at the first byte, and on the last byte emit the buffer, whose decode is reported in the same
step. That the decode is reported in the step of the last symbol is the spec's own decisions D4 and D5;
what the buffer and the length keep after it is its decision D17. The 32-bit wrap of the counters, in
states that no run reaches, is log entry 11. -/
def Obligations.BitSymbolEffect : Prop :=
  (∀ (p : Params) (y : Byte), y.getLsbD 1 = false →
    decodeInput p (.stream (.symbol y)) = .ok (.bit (y.extractLsb' 2 6) (y.getLsbD 0))) ∧
  ∀ (ig : BitVec 6) (d : Bool) (s : State), s.closed = false →
    let sr : Byte := s.sr.extractLsb' 0 7 ++ BitVec.ofBool d
    let L : Word32 := if s.byteCount = 0#32 then sr.setWidth 32 + 3#32 else s.declaredLength
    exec (.bit ig d) s = .next
      (if s.synced = false then { s with sr := sr }
      else if s.bitCount ≠ 7#3 then { s with sr := sr, bitCount := s.bitCount + 1#3 }
      else if 0 < L.toNat ∧ s.byteCount + 1#32 = L then
        { s with
          sr := sr, synced := false, bitCount := 0#3, byteCount := 0#32, declaredLength := L
          buffer := s.buffer ++ [sr]
          frames := s.frames ++ [s.buffer ++ [sr]]
          reports := s.reports ++ [reportOf (decodeResult s.params (s.buffer ++ [sr]))] }
      else
        { s with
          sr := sr, bitCount := 0#3, byteCount := s.byteCount + 1#32, declaredLength := L
          buffer := s.buffer ++ [sr] })

/-- By `20_memory.md` section 12: the only store is the append of all eight bits of the shifted `sr` at
`len(buffer)`. Every instruction leaves every byte of the buffer as it was, or is `SYNC` or `RESET` and
clears it, or is a `BIT` that appends that one byte and leaves every other offset as it was. That
`RESET` empties the buffer is the spec's own decision D3; that a closed block takes symbols without
effect is log entry 6. -/
def Obligations.OnlyStoreIsTheAppend : Prop :=
  ∀ (i : Instr) (s t : State), exec i s = .next t →
    (∀ a, t.buffer.read a = s.buffer.read a) ∨
    (((∃ ig d, i = .sync ig d) ∨ i = .reset) ∧ ∀ a, t.buffer.read a = none) ∨
    (∃ ig d, i = .bit ig d ∧
      t.buffer.read s.buffer.length = some (s.sr.extractLsb' 0 7 ++ BitVec.ofBool d) ∧
      ∀ a, a ≠ s.buffer.length → t.buffer.read a = s.buffer.read a)

/-- `EOS` (the `closed` bit is the spec's own decision D20) sets `closed` and changes nothing else;
after it no symbol and no further `EOS` changes anything of the synchronizer or puts anything out; only
`RESET` clears `closed`. That an `EOS` taken while closed is a step to the same state is log entry 6. -/
def Obligations.EndOfStreamClosesTheBlock : Prop :=
  (∀ s : State, exec .eos s = .next { s with closed := true }) ∧
  (∀ (s t : State) (ig : BitVec 6) (d : Bool), s.closed = true →
    (exec (.bit ig d) s = .next t ∨ exec (.sync ig d) s = .next t ∨ exec .eos s = .next t) →
      t.sr = s.sr ∧ t.synced = s.synced ∧ t.bitCount = s.bitCount ∧ t.byteCount = s.byteCount ∧
      t.declaredLength = s.declaredLength ∧ t.buffer = s.buffer ∧ t.closed = true ∧
      t.frames = s.frames ∧ t.reports = s.reports) ∧
  ∀ (i : Instr) (s t : State), s.closed = true → exec i s = .next t → t.closed = false → i = .reset

/-- While `closed`, a symbol is refused with no effect: the model takes the next state to be the same
state (log entry 6), not a stop. -/
def Obligations.ClosedBlockDropsSymbols : Prop :=
  ∀ (s : State) (ig : BitVec 6) (d : Bool), s.closed = true →
    exec (.bit ig d) s = .next s ∧ exec (.sync ig d) s = .next s ∧ exec .eos s = .next s

/-- From any state `RESET` puts every register at its reset value and puts nothing out. The values other
than that of `synced` are the spec's own decisions D3 and D20; that the ports stay is log entry 9. -/
def Obligations.ResetPutsEveryRegisterAtItsResetValue : Prop :=
  ∀ s : State, exec .reset s = .next
    { s with
      sr := 0x00#8, synced := false, bitCount := 0#3, byteCount := 0#32, declaredLength := 0#32
      buffer := [], closed := false }

/-- The machine right after reset. The values other than that of `synced` are the spec's own decisions
D3 and D20 (log entry 15). -/
def Obligations.StateAfterReset : Prop :=
  State.reset.sr = 0x00#8 ∧ State.reset.synced = false ∧ State.reset.bitCount = 0#3 ∧
  State.reset.byteCount = 0#32 ∧ State.reset.declaredLength = 0#32 ∧ State.reset.buffer = [] ∧
  State.reset.closed = false

/-- "`RESET` beats everything" (rule R288): whatever stream item arrives with it is lost. How the two
arrive together is log entry 9. -/
def Obligations.ResetBeatsAStreamItem : Prop :=
  ∀ (s : State) (lost : Option StreamItem) (rest : List Input), s.input = .reset lost :: rest →
    step s = exec .reset { s with input := rest }

/-- By `10_state.md` section 2: only a sync pulse writes `true` to `synced`; only frame completion and
`RESET` write `false`. That a pulse does so only in a block that is not closed is the spec's own
decision D20; that a closed block takes it without effect is log entry 6. -/
def Obligations.OnlyAPulseRaisesSynced : Prop :=
  ∀ (s t : State), step s = .next t →
    (s.synced = false → t.synced = true →
      ∃ y rest, s.input = .stream (.symbol y) :: rest ∧ y.getLsbD 1 = true ∧ s.closed = false) ∧
    (s.synced = true → t.synced = false →
      (∃ lost rest, s.input = .reset lost :: rest) ∨ ∃ F, t.frames = s.frames ++ [F])

/-- The length property of `40_synchronizer.md` section 4: from any state that is not closed, a sync
pulse and the bits after it, up to the length that their first byte declares, give exactly one frame, in
the step of the last symbol and in no step before it; the frame is the bytes those bits form, and its
decode is reported in that same step. That the report belongs to the step of the last symbol is the
spec's own decisions D4 and D5; what the buffer and the length keep is its decision D17. -/
def Obligations.FrameCompletesExactlyAtItsLength : Prop :=
  ∀ (s : State) (ys F : List Byte) (rest : List Input),
    s.closed = false → F ≠ [] → F.length = (byteAt F 0).toNat + 3 → carries ys F →
    s.input = symbolInputs ys ++ rest →
    ys.length = 8 * F.length ∧
    (∀ k, k < ys.length → ∃ t, run k s = .next t ∧ t.frames = s.frames ∧ t.reports = s.reports) ∧
    ∃ t, run ys.length s = .next t ∧ t.frames = s.frames ++ [F] ∧
      t.reports = s.reports ++ [reportOf (decodeResult s.params F)] ∧
      t.input = rest ∧ t.synced = false ∧ t.byteCount = 0#32 ∧ t.bitCount = 0#3 ∧
      t.buffer = F ∧ t.declaredLength.toNat = F.length ∧ t.closed = false ∧ t.params = s.params

/-- The source's round-trip property (E1 of `95_test_vectors.md`): feeding the symbols of an encoded
frame instruction, the sync pulse on the first bit, through the synchronizer puts out exactly what the
instruction itself puts out. That the instruction also runs by itself, on the fields of a checked frame,
is log entries 7 and 13; the report in the step of the last symbol is the spec's own decisions D4 and
D5. -/
def Obligations.FramesRoundTripThroughTheSynchronizer : Prop :=
  ∀ (s : State) (i : Instr) (t : FrameType) (f : FrameFields) (rest : List Input),
    i.frame? = some (t, f) → f.length.toNat = f.payload.length + 6 → s.closed = false →
    s.input = symbolInputs (syms (encodeFrame s.params t f)) ++ rest →
    ∃ u v, run (8 * (f.payload.length + 9)) s = .next u ∧ exec i s = .next v ∧
      u.reports = v.reports ∧ u.frames = s.frames ++ [encodeFrame s.params t f] ∧ u.input = rest

/-- Rule R133: a sync pulse and the seven symbols after it leave nothing of what the synchronizer held:
two blocks that differ in any of the registers are then in the same state. -/
def Obligations.SyncPulseForgetsThePartialFrame : Prop :=
  ∀ (s s' : State) (y : Byte) (ys : List Byte) (rest : List Input),
    s.closed = false → s'.closed = false → s.params = s'.params → s.frames = s'.frames →
    s.reports = s'.reports → y.getLsbD 1 = true → ys.length = 7 →
    s.input = symbolInputs (y :: ys) ++ rest → s'.input = symbolInputs (y :: ys) ++ rest →
    ∃ t, run 8 s = .next t ∧ run 8 s' = .next t

/-- The spec's own inference in `10_state.md` section 9: while UNSYNCED, no output, however long the
run, depends on what `sr`, `bit_count`, `byte_count`, `declared_length` or `buffer` hold; so none
depends on their reset values. That input offered after an `EOS` is used up without effect is log entry
6. -/
def Obligations.OutputsDoNotDependOnIdleRegisters : Prop :=
  ∀ (s s' : State) (k : Nat),
    s.synced = false → s'.synced = false → s.closed = s'.closed → s.params = s'.params →
    s.input = s'.input → s.frames = s'.frames → s.reports = s'.reports →
    ∃ t t', run k s = .next t ∧ run k s' = .next t' ∧ t.frames = t'.frames ∧ t.reports = t'.reports ∧
      t.synced = t'.synced ∧ t.closed = t'.closed

/-- The spec's own inference in `40_synchronizer.md` section 4: a stream with no sync pulse, from an
UNSYNCED block, puts nothing out and changes `sr` only. Beside it the input is used up, and `closed` is
set exactly if an `EOS` was among what was taken (the spec's own decision D20). That input offered after
an `EOS` is used up without effect is log entry 6. -/
def Obligations.NoSyncPulseNoFrame : Prop :=
  ∀ (s t : State) (k : Nat), s.synced = false →
    (∀ x ∈ s.input, ∃ item, x = .stream item ∧ ∀ y, item = .symbol y → y.getLsbD 1 = false) →
    run k s = .next t →
    t = { s with sr := t.sr, closed := t.closed, input := s.input.drop k } ∧
    (t.closed = true ↔ s.closed = true ∨ Input.stream .eos ∈ s.input.take k)

/-- By the spec's own decision D20: after the end of the stream nothing of the synchronizer changes and
nothing is put out, whatever is offered, until a `RESET`; a frame in progress is never reported. The
spec says that a closed block takes no symbol; that what is offered to it is used up without effect is
the model's choice, log entry 6. -/
def Obligations.NothingAfterEndOfStream : Prop :=
  ∀ (s t : State) (k : Nat), s.closed = true →
    (∀ x ∈ s.input, ∃ item, x = .stream item) → run k s = .next t →
    t = { s with input := s.input.drop k }

/-! ### Whole-machine rules -/

/-- The invariant that the spec infers, `State.Inv`, is kept by every step from every state that meets
it. -/
def Obligations.InvariantKeptByEveryStep : Prop :=
  ∀ (s t : State), s.Inv → step s = .next t → t.Inv

/-- The invariant `State.Inv` holds of the machine right after reset, and in every state that `RESET`
leads to. The reset values are the spec's own decisions D3 and D20 (log entry 15). -/
def Obligations.InvariantHoldsAfterReset : Prop :=
  State.reset.Inv ∧ ∀ (s t : State), exec .reset s = .next t → t.Inv

/-- Every frame the synchronizer emits has the length its first byte declares, 3 to 258 bytes. The
frames as a list are log entry 3, and the spec marks the lengths as its own inference. -/
def Obligations.EmittedFramesAreLengthDelimited : Prop :=
  ∀ (s t : State), s.Inv → (∀ F ∈ s.frames, wellDelimited F) → step s = .next t →
    ∀ F ∈ t.frames, wellDelimited F

/-- The spec's own inference in `42_mac_parser.md` section 3: `PayloadTooShort` cannot occur for a frame
from the synchronizer. -/
def Obligations.NoPayloadTooShortFromTheSynchronizer : Prop :=
  ∀ (s t : State) (item : StreamItem) (rest : List Input), s.Inv → s.input = .stream item :: rest →
    step s = .next t →
    ∀ r ∈ t.reports.drop s.reports.length, ∀ L n, r.record ≠ .error (.payloadTooShort L n)

/-- What has been put out never changes; a step puts out nothing, or one emitted frame with the one
report of its decode, or, for a frame handed to the decoder, the one report of that. That the report
belongs to the step of the emission is the spec's own decisions D4 and D5; the outputs as lists are log
entry 3; that a frame handed over by itself adds a report and no entry of `frames` is log entry 7. -/
def Obligations.OneReportForEveryFrame : Prop :=
  ∀ (s t : State), step s = .next t →
    (t.frames = s.frames ∧ t.reports = s.reports) ∨
    (∃ y rest F, s.input = .stream (.symbol y) :: rest ∧ t.frames = s.frames ++ [F] ∧
      t.reports = s.reports ++ [reportOf (decodeResult s.params F)]) ∨
    (∃ F rest, s.input = .frame F :: rest ∧ t.frames = s.frames ∧
      t.reports = s.reports ++ [reportOf (decodeResult s.params F)])

/-- The spec's own decision D19: nothing writes the build-time parameters (that they stand in the state
is log entry 4). -/
def Obligations.ParametersNeverChange : Prop :=
  ∀ (s t : State) (k : Nat), run k s = .next t → t.params = s.params

/-- By `42_mac_parser.md` section 3: a decode changes nothing but the ports: its report is a function of
the frame and the parameters, whatever the synchronizer holds. A frame handed over by itself is log
entry 7. -/
def Obligations.DecodeChangesNoRegister : Prop :=
  ∀ (s : State) (F : List Byte) (rest : List Input), s.input = .frame F :: rest →
    step s = .next
      { s with
        input := rest
        reports := s.reports ++ [reportOf (decodeResult s.params F)] }

/-- The instruction that a frame decodes to puts out the report of that frame's decode, and the
hand-over of an emitted frame, `deliver`, is that instruction at the state to which the frame was added.
That a frame instruction can run by itself is the model's own log entry 7, and that its operands are the
checked fields is log entry 13. -/
def Obligations.HandedOverFrameRunsItsInstruction : Prop :=
  ∀ (s : State) (F : List Byte) (i : Instr), decodeFrame s.params F = .ok i →
    exec i s = .next { s with reports := s.reports ++ [reportOf (decodeResult s.params F)] } ∧
    exec i { s with frames := s.frames ++ [F] } = .next (deliver F s)

/-! ### The CRC -/

/-- Rule R151: `crc16(M)` is the remainder of `M(x) * x^16` by `x^16 + x^12 + x^5 + 1` over GF(2), the
bits of `M` in arrival order from the highest power down; and the rule's corner cases. -/
def Obligations.CrcIsThePolynomialRemainder : Prop :=
  (∀ M : List Byte,
    ((∑ i ∈ Finset.range (dataBits M).length,
        if (dataBits M).getD i false then
          (Polynomial.X : Polynomial (ZMod 2)) ^ ((dataBits M).length - 1 - i)
        else 0) * Polynomial.X ^ 16) %ₘ
      (Polynomial.X ^ 16 + Polynomial.X ^ 12 + Polynomial.X ^ 5 + 1) =
    ∑ i ∈ Finset.range 16,
      if (crc16 M).getLsbD i then (Polynomial.X : Polynomial (ZMod 2)) ^ i else 0) ∧
  crc16 [] = 0x0000#16 ∧ crc16 [0x00#8] = 0x0000#16 ∧ crc16 [0x01#8] = 0x1021#16 ∧
  crc16 [0x80#8] = 0x9188#16 ∧ crc16 [0xFF#8] = 0x1EF0#16

/-- The spec's own inference in `41_crc16.md` section 1: the table form, with `T[i] = crc16([i])`, gives
the same result; and the table's values. -/
def Obligations.CrcTableFormAgrees : Prop :=
  (∀ M : List Byte,
    crc16 M = M.foldl
      (fun (crc : Word16) (b : Byte) =>
        (crc <<< 8) ^^^ crc16 [(crc >>> 8).setWidth 8 ^^^ b]) 0x0000#16) ∧
  crc16 [0#8] = 0x0000#16 ∧ crc16 [1#8] = 0x1021#16 ∧ crc16 [2#8] = 0x2042#16 ∧
  crc16 [255#8] = 0x1EF0#16

/-- The spec's own inference in `41_crc16.md` section 1: the check of the trailer is the same as residue
zero over the whole frame. -/
def Obligations.CrcCheckIsResidueZero : Prop :=
  ∀ F : List Byte, 2 ≤ F.length →
    (((crc16 (F.take (F.length - 2))).toNat =
        (byteAt F (F.length - 2)).toNat * 256 + (byteAt F (F.length - 1)).toNat) ↔
      crc16 F = 0x0000#16)

/-- The spec's own inference in `41_crc16.md` section 1: a frame that passes the check fails it after
the change of any one bit, whether of the body or of the trailer: its decode is `CrcError`. The recorded
values are the spec's own decisions D12 and D21. -/
def Obligations.EverySingleBitFlipIsCaught : Prop :=
  ∀ (p : Params) (F : List Byte) (j k : Nat), 9 ≤ F.length →
    crc16 (F.take (F.length - 2)) = be16 F (F.length - 2) → j < F.length → k < 8 →
    ∃ computed received, computed ≠ received ∧
      decodeFrame p (F.set j (byteAt F j ^^^ (1#8 <<< k))) = .error (.crcError computed received)

/-- The spec's own inference in `41_crc16.md` section 1: an error confined to 16 consecutive bits, the
length unchanged, fails the check. -/
def Obligations.EveryShortBurstIsCaught : Prop :=
  ∀ (F F' : List Byte) (k : Nat), 2 ≤ F.length → F'.length = F.length → F' ≠ F →
    (∀ j, (j < k ∨ k + 16 ≤ j) → (dataBits F')[j]? = (dataBits F)[j]?) →
    crc16 (F.take (F.length - 2)) = be16 F (F.length - 2) →
    crc16 (F'.take (F'.length - 2)) ≠ be16 F' (F'.length - 2)

/-- The spec's own inference in `41_crc16.md` section 1: leading zero bytes are not protected, and a
frame of zero bytes passes the check. -/
def Obligations.LeadingZerosAreNotProtected : Prop :=
  (∀ M : List Byte, crc16 (0x00#8 :: M) = crc16 M) ∧
  ∀ n : Nat, 2 ≤ n →
    crc16 ((List.replicate n 0x00#8).take (n - 2)) = be16 (List.replicate n 0x00#8) (n - 2)

/-! ### The MAC Decoder's checks -/

/-- By `42_mac_parser.md` section 2: the first check, and exactly when it rejects. The values that the
record holds are the spec's own decisions D12 and D21. -/
def Obligations.FrameTooShortExactlyBelowNineBytes : Prop :=
  ∀ (p : Params) (F : List Byte),
    (F.length < 9 → decodeFrame p F = .error (.frameTooShort F.length)) ∧
    (9 ≤ F.length → ∀ n, decodeFrame p F ≠ .error (.frameTooShort n))

/-- By `42_mac_parser.md` section 2: the second check, exactly when it rejects, and what is recorded; it
is made before the header is looked at. The values that the record holds are the spec's own decisions
D12 and D21. -/
def Obligations.CrcErrorExactlyOnMismatch : Prop :=
  ∀ (p : Params) (F : List Byte) (computed received : Word16),
    decodeFrame p F = .error (.crcError computed received) ↔
      9 ≤ F.length ∧ computed = crc16 (F.take (F.length - 2)) ∧
      received.toNat =
        (byteAt F (F.length - 2)).toNat * 256 + (byteAt F (F.length - 1)).toNat ∧
      computed ≠ received

/-- By `42_mac_parser.md` section 2: the third check, a `>=` on the sum taken without wrap, exactly when
it rejects, and what is recorded. The values that the record holds are the spec's own decisions D12 and
D21. -/
def Obligations.PayloadTooShortExactlyWhenLengthExceeds : Prop :=
  ∀ (p : Params) (F : List Byte) (L : Byte) (n : Nat),
    decodeFrame p F = .error (.payloadTooShort L n) ↔
      9 ≤ F.length ∧
      (crc16 (F.take (F.length - 2))).toNat =
        (byteAt F (F.length - 2)).toNat * 256 + (byteAt F (F.length - 1)).toNat ∧
      L = byteAt F 0 ∧ n = F.length ∧ F.length < L.toNat + 3

/-- A frame that passes the checks decodes to the instruction of its type, with every field from its own
offset, the flags byte at offset 1 or, under `FLAGS_ORDER = BE` (the spec's decision D1, log entry 4),
2. The fields as operands of an instruction are log entry 13. -/
def Obligations.AcceptedFrameFieldsAreAtTheirOffsets : Prop :=
  ∀ (p : Params) (F : List Byte), 9 ≤ F.length →
    (crc16 (F.take (F.length - 2))).toNat =
      (byteAt F (F.length - 2)).toNat * 256 + (byteAt F (F.length - 1)).toNat →
    (byteAt F 0).toNat + 3 ≤ F.length →
    ∃ t f flags flagsHi, decodeFrame p F = .ok (Instr.ofFrame t f) ∧
      F[if p.flagsOrder = .le then 1 else 2]? = some flags ∧
      F[if p.flagsOrder = .le then 2 else 1]? = some flagsHi ∧
      t.bits.toNat = flags.toNat % 32 ∧ f.ar = decide (flags &&& 0x40#8 ≠ 0#8) ∧
      f.dp = decide (flags &&& 0x80#8 ≠ 0#8) ∧ f.bit5 = flags.getLsbD 5 ∧ f.flagsHi = flagsHi ∧
      F[0]? = some f.length ∧ F[3]? = some f.net ∧ F[4]? = some f.dest ∧ F[5]? = some f.src ∧
      F[6]? = some f.seq ∧ f.payload.length = F.length - 9 ∧
      ∀ k, k < F.length - 9 → f.payload[k]? = F[7 + k]?

/-! ### The frame types -/

/-- Type 0, by `43_payload_dispatch.md` section 2. A payload shorter than the layout falls back; under
`STRICT_PAYLOAD_LEN` a longer one does too, the spec's decision D6 (log entry 4). That the instruction
runs by itself, on the fields of a checked frame, is log entries 7 and 13; the shape of the record is
the spec's own decision D21; its code in the report is decision D12 by log entry 12. -/
def Obligations.BeaconReport : Prop :=
  ∀ (f : FrameFields) (s : State), ∃ d, reportsOnly (.beacon f) s d ∧ headerIs 0 f d ∧
    typeName d.frameType = "BEACON".toList ∧
    ((failsLayout s.params 12 f.payload ∧ d.body = .hex f.payload ∧ d.fallback = true) ∨
      (¬ failsLayout s.params 12 f.payload ∧ d.fallback = false ∧
        ∃ uuid timestamp flags interval,
          d.body = .beacon uuid timestamp flags interval (flags.getLsbD 0) (flags.getLsbD 1) ∧
          uuid.toNat = fieldValue s.params.fieldOrder f.payload 0 8 ∧
          timestamp.toNat = fieldValue s.params.fieldOrder f.payload 8 2 ∧
          f.payload[10]? = some flags ∧ f.payload[11]? = some interval))

/-- Type 4, by `43_payload_dispatch.md` section 2. The heartbeat as a power of two is the spec's own
decision D14. A payload shorter than the layout falls back; under `STRICT_PAYLOAD_LEN` a longer one does
too, the spec's decision D6 (log entry 4). That the instruction runs by itself, on the fields of a
checked frame, is log entries 7 and 13; the shape of the record is the spec's own decision D21; its code
in the report is decision D12 by log entry 12. -/
def Obligations.RegReqReport : Prop :=
  ∀ (f : FrameFields) (s : State), ∃ d, reportsOnly (.regReq f) s d ∧ headerIs 4 f d ∧
    typeName d.frameType = "REG_REQ".toList ∧
    ((failsLayout s.params 10 f.payload ∧ d.body = .hex f.payload ∧ d.fallback = true) ∨
      (¬ failsLayout s.params 10 f.payload ∧ d.fallback = false ∧
        ∃ uuid flags exp secs,
          d.body = .regReq uuid flags exp secs (flags.getLsbD 4) ∧
          uuid.toNat = fieldValue s.params.fieldOrder f.payload 0 8 ∧
          flags.toNat = fieldValue s.params.fieldOrder f.payload 8 2 ∧
          exp.toNat = flags.toNat % 16 ∧ secs.toNat = 2 ^ exp.toNat))

/-- Type 5, by `43_payload_dispatch.md` section 2. A payload shorter than the layout falls back; under
`STRICT_PAYLOAD_LEN` a longer one does too, the spec's decision D6 (log entry 4). That the instruction
runs by itself, on the fields of a checked frame, is log entries 7 and 13; the shape of the record is
the spec's own decision D21; its code in the report is decision D12 by log entry 12. -/
def Obligations.DeregReqReport : Prop :=
  ∀ (f : FrameFields) (s : State), ∃ d, reportsOnly (.deregReq f) s d ∧ headerIs 5 f d ∧
    typeName d.frameType = "DEREG_REQ".toList ∧
    ((failsLayout s.params 9 f.payload ∧ d.body = .hex f.payload ∧ d.fallback = true) ∨
      (¬ failsLayout s.params 9 f.payload ∧ d.fallback = false ∧
        ∃ uuid reason,
          d.body = .deregReq uuid reason
            (if reason = 0#8 then .user else if reason = 1#8 then .power else .unknown) ∧
          uuid.toNat = fieldValue s.params.fieldOrder f.payload 0 8 ∧
          f.payload[8]? = some reason))

/-- Type 6. The numbering of the status names is the spec's own decision D11. A payload shorter than the
layout falls back; under `STRICT_PAYLOAD_LEN` a longer one does too, the spec's decision D6 (log entry
4). That the instruction runs by itself, on the fields of a checked frame, is log entries 7 and 13; the
shape of the record is the spec's own decision D21; its code in the report is decision D12 by log entry
12. -/
def Obligations.RegAckReport : Prop :=
  ∀ (f : FrameFields) (s : State), ∃ d, reportsOnly (.regAck f) s d ∧ headerIs 6 f d ∧
    typeName d.frameType = "REG_ACK".toList ∧
    ((failsLayout s.params 10 f.payload ∧ d.body = .hex f.payload ∧ d.fallback = true) ∨
      (¬ failsLayout s.params 10 f.payload ∧ d.fallback = false ∧
        ∃ uuid addr status,
          d.body = .regAck uuid addr status
            (if status = 0#8 then .ok else if status = 1#8 then .denied
              else if status = 2#8 then .full else if status = 3#8 then .shutdown
              else if status = 4#8 then .admin else if status = 5#8 then .addressInvalid
              else .unknown) ∧
          uuid.toNat = fieldValue s.params.fieldOrder f.payload 0 8 ∧
          f.payload[8]? = some addr ∧ f.payload[9]? = some status))

/-- By `43_payload_dispatch.md` section 2, the stub types BEACON_REQ, POLL and ACK: no payload detail,
whatever the payload holds, and no fallback. That the instruction runs by itself, on the fields of a
checked frame, is log entries 7 and 13; the shape of the record is the spec's own decision D21; its code
in the report is decision D12 by log entry 12. -/
def Obligations.StubFrameReports : Prop :=
  ∀ (f : FrameFields) (s : State) (x : (FrameFields → Instr) × Nat × String),
    x ∈ [(Instr.beaconReq, 1, "BEACON_REQ"), (Instr.poll, 2, "POLL"), (Instr.ack, 3, "ACK")] →
    ∃ d, reportsOnly (x.1 f) s d ∧ headerIs x.2.1 f d ∧ typeName d.frameType = x.2.2.toList ∧
      d.body = .noDetail ∧ d.fallback = false

/-- Types 7 to 15, the "9 reserved slots": the hex dump of the payload under the reserved name, whose
two upper-case digits are the spec's own decision D10. That the instruction runs by itself, on the
fields of a checked frame, is log entries 7 and 13; the shape of the record is the spec's own decision
D21; its code in the report is decision D12 by log entry 12. -/
def Obligations.LowReservedFrameReports : Prop :=
  ∀ (f : FrameFields) (s : State) (x : (FrameFields → Instr) × Nat × String),
    x ∈ [(Instr.reserved07, 7, "RESERVED07"), (Instr.reserved08, 8, "RESERVED08"),
      (Instr.reserved09, 9, "RESERVED09"), (Instr.reserved0A, 10, "RESERVED0A"),
      (Instr.reserved0B, 11, "RESERVED0B"), (Instr.reserved0C, 12, "RESERVED0C"),
      (Instr.reserved0D, 13, "RESERVED0D"), (Instr.reserved0E, 14, "RESERVED0E"),
      (Instr.reserved0F, 15, "RESERVED0F")] →
    ∃ d, reportsOnly (x.1 f) s d ∧ headerIs x.2.1 f d ∧ typeName d.frameType = x.2.2.toList ∧
      d.body = .hex f.payload ∧ d.fallback = false

/-- Types 20 to 29, the "10 more reserved slots": the hex dump of the payload under the reserved name,
whose two upper-case digits are the spec's own decision D10. That the instruction runs by itself, on the
fields of a checked frame, is log entries 7 and 13; the shape of the record is the spec's own decision
D21; its code in the report is decision D12 by log entry 12. -/
def Obligations.HighReservedFrameReports : Prop :=
  ∀ (f : FrameFields) (s : State) (x : (FrameFields → Instr) × Nat × String),
    x ∈ [(Instr.reserved14, 20, "RESERVED14"), (Instr.reserved15, 21, "RESERVED15"),
      (Instr.reserved16, 22, "RESERVED16"), (Instr.reserved17, 23, "RESERVED17"),
      (Instr.reserved18, 24, "RESERVED18"), (Instr.reserved19, 25, "RESERVED19"),
      (Instr.reserved1A, 26, "RESERVED1A"), (Instr.reserved1B, 27, "RESERVED1B"),
      (Instr.reserved1C, 28, "RESERVED1C"), (Instr.reserved1D, 29, "RESERVED1D")] →
    ∃ d, reportsOnly (x.1 f) s d ∧ headerIs x.2.1 f d ∧ typeName d.frameType = x.2.2.toList ∧
      d.body = .hex f.payload ∧ d.fallback = false

/-- By `43_payload_dispatch.md` section 2, the named opaque types: the hex dump of the payload. That the
instruction runs by itself, on the fields of a checked frame, is log entries 7 and 13; the shape of the
record is the spec's own decision D21; its code in the report is decision D12 by log entry 12. -/
def Obligations.NamedOpaqueFrameReports : Prop :=
  ∀ (f : FrameFields) (s : State) (x : (FrameFields → Instr) × Nat × String),
    x ∈ [(Instr.rawData, 16, "RAW_DATA"), (Instr.tinyhan, 17, "TINYHAN"),
      (Instr.mqttSn, 18, "MQTT-SN"), (Instr.sixLowpan, 19, "6LOWPAN"),
      (Instr.extended, 31, "EXTENDED")] →
    ∃ d, reportsOnly (x.1 f) s d ∧ headerIs x.2.1 f d ∧ typeName d.frameType = x.2.2.toList ∧
      d.body = .hex f.payload ∧ d.fallback = false

/-- Type 30: the payload less its first byte, as text; empty for 0 or 1 bytes by the spec's own decision
D8. That the instruction runs by itself, on the fields of a checked frame, is log entries 7 and 13; the
shape of the record is the spec's own decision D21; its code in the report is decision D12 by log entry
12. -/
def Obligations.SyslogReport : Prop :=
  ∀ (f : FrameFields) (s : State), ∃ d bytes, reportsOnly (.syslog f) s d ∧ headerIs 30 f d ∧
    typeName d.frameType = "SYSLOG".toList ∧ d.body = .text bytes ∧ d.fallback = false ∧
    bytes.length = f.payload.length - 1 ∧ ∀ k, bytes[k]? = f.payload[k + 1]?

/-- Rules R86 and R200: the type number of a checked frame alone selects its instruction, and every
number from 0 to 31 has one of its own. -/
def Obligations.EveryTypeNumberHasItsOwnInstruction : Prop :=
  (∀ n : Nat, n < 32 →
    ∃ t : FrameType, t.bits.toNat = n ∧ ∀ t' : FrameType, t'.bits.toNat = n → t' = t) ∧
  ∀ (t t' : FrameType) (f f' : FrameFields), Instr.ofFrame t f = Instr.ofFrame t' f' → t = t' ∧ f = f'

/-! ### The line and the codes -/

/-- Rules R250 and R252: every piece of the line of a decoded record stands in its columns. -/
def Obligations.LinePiecesStandInTheirColumns : Prop :=
  ∀ d : Decoded,
    let l := render (.decoded d)
    let piece := fun (col len : Nat) => (l.drop col).take len
    piece 0 1 = "[".toList ∧ piece 1 2 = hex2 d.net ∧ piece 3 2 = "] ".toList ∧
    piece 5 2 = hex2 d.src ∧ piece 7 2 = "->".toList ∧ piece 9 2 = hex2 d.dest ∧
    piece 11 2 = " (".toList ∧ piece 13 2 = hex2 d.seq ∧ piece 15 2 = ") ".toList ∧
    piece 17 2 = (if d.ar then "AR".toList else "  ".toList) ∧ piece 19 1 = " ".toList ∧
    piece 20 2 = (if d.dp then "DP".toList else "  ".toList) ∧ piece 22 3 = " : ".toList ∧
    piece 25 12 =
      List.replicate (12 - (typeName d.frameType).length) ' ' ++ typeName d.frameType ∧
    piece 37 3 = " : ".toList ∧ l.drop 40 = payloadText d.body

/-- Rule R251: a byte prints as two upper-case hexadecimal digits, with a leading zero. Beyond that
rule, any number of digits, most significant first, as the 16 digits of a printed UUID and the 4 of a
printed CRC; those two forms are the spec's own decisions D13 and D12. -/
def Obligations.BytesPrintAsTwoUpperCaseDigits : Prop :=
  (∀ b : Byte, ∃ hi lo,
    hex2 b = [hi, lo] ∧ "0123456789ABCDEF".toList[b.toNat / 16]? = some hi ∧
    "0123456789ABCDEF".toList[b.toNat % 16]? = some lo) ∧
  ∀ k n : Nat, (hexDigits k n).length = k ∧
    ∀ i, i < k →
      (hexDigits k n)[i]? = "0123456789ABCDEF".toList[n / 16 ^ (k - 1 - i) % 16]?

/-- The decimal form `{v}` of `44_rendering.md` section 2: decimal digits that read back as the value,
with no leading zero. -/
def Obligations.DecimalReadsBackWithoutLeadingZeros : Prop :=
  ∀ n : Nat,
    (∀ c ∈ decimal n, '0' ≤ c ∧ c ≤ '9') ∧
    (decimal n).foldl (fun v c => 10 * v + (c.toNat - 48)) 0 = n ∧
    (n = 0 → decimal n = ['0']) ∧ (n ≠ 0 → ∃ c rest, decimal n = c :: rest ∧ c ≠ '0')

/-- The spec's own decision D7: two digits a byte, single spaces between, nothing before or after. -/
def Obligations.HexDumpLayout : Prop :=
  ∀ bytes : List Byte,
    (payloadText (.hex bytes)).length = 3 * bytes.length - 1 ∧
    (∀ k b, bytes[k]? = some b →
      ((payloadText (.hex bytes)).drop (3 * k)).take 2 = hex2 b) ∧
    ∀ k, k + 1 < bytes.length → (payloadText (.hex bytes))[3 * k + 2]? = some ' '

/-- The spec's own decision D8: one character per byte, its code point the byte's value. -/
def Obligations.TextIsOneCharacterPerByte : Prop :=
  ∀ bytes : List Byte,
    (payloadText (.text bytes)).map Char.toNat = bytes.map BitVec.toNat

/-- The spec's own decisions D9 and D13: the texts of the typed payloads, whose tokens after the first
are present only when their condition holds, and the empty text of the stub types. -/
def Obligations.TypedPayloadTexts : Prop :=
  (∀ uuid timestamp flags interval sync permit,
    payloadText (.beacon uuid timestamp flags interval sync permit) =
      "UUID=".toList ++ hexDigits 16 uuid.toNat ++ " TIMESTAMP=".toList ++ decimal timestamp.toNat
        ++ " INTERVAL=".toList ++ decimal interval.toNat ++ (if sync then " SYNC".toList else [])
        ++ (if permit then " PERMIT_ATTACH".toList else [])) ∧
  (∀ uuid flags exp secs sleepy,
    payloadText (.regReq uuid flags exp secs sleepy) =
      "UUID=".toList ++ hexDigits 16 uuid.toNat ++ " HEARTBEAT=".toList ++ decimal secs.toNat
        ++ " secs".toList ++ (if sleepy then " (SLEEPY)".toList else [])) ∧
  (∀ uuid reason name,
    payloadText (.deregReq uuid reason name) =
      "UUID=".toList ++ hexDigits 16 uuid.toNat ++ " REASON=".toList ++
        (match name with
          | .user => "USER".toList
          | .power => "POWER".toList
          | .unknown => "UNKNOWN".toList)) ∧
  (∀ uuid addr status name,
    payloadText (.regAck uuid addr status name) =
      "UUID=".toList ++ hexDigits 16 uuid.toNat ++ " ADDR=".toList ++ hex2 addr
        ++ " STATUS=".toList ++
        (match name with
          | .ok => "OK".toList
          | .denied => "DENIED".toList
          | .full => "FULL".toList
          | .shutdown => "SHUTDOWN".toList
          | .admin => "ADMIN".toList
          | .addressInvalid => "ADDRESS_INVALID".toList
          | .unknown => "UNKNOWN".toList)) ∧
  payloadText .noDetail = []

/-- The spec's own decision D12: the three error lines. -/
def Obligations.ErrorLines : Prop :=
  (∀ n, render (.error (.frameTooShort n)) =
    "FrameTooShort: ".toList ++ decimal n ++ " bytes, need at least 9".toList) ∧
  (∀ computed received, render (.error (.crcError computed received)) =
    "CrcError: computed ".toList ++ hexDigits 4 computed.toNat ++ ", received ".toList
      ++ hexDigits 4 received.toNat) ∧
  ∀ L n, render (.error (.payloadTooShort L n)) =
    "PayloadTooShort: length byte ".toList ++ hex2 L ++ " needs ".toList ++ decimal (L.toNat + 3)
      ++ " bytes, frame has ".toList ++ decimal n

/-- The code on the status port for each record, numbered by the spec's own decision D12 and carried in
the report by log entry 12; codes above 4 never appear. -/
def Obligations.StatusCodes : Prop :=
  (∀ n, (reportOf (.error (.frameTooShort n))).status = 1) ∧
  (∀ L n, (reportOf (.error (.payloadTooShort L n))).status = 2) ∧
  (∀ computed received, (reportOf (.error (.crcError computed received))).status = 3) ∧
  (∀ d : Decoded, (reportOf (.decoded d)).status = if d.fallback then 4 else 0) ∧
  ∀ r, (reportOf r).status ≤ 4
end

