-- ==== Sys2Proof/Laws/Crc16.lean ====
section
/-!
SUPPORT. The laws of the CRC's step: it runs byte by byte and is linear over exclusive-or, and the shift
loses nothing (rule R151).
-/

namespace Sys2Proof.Machine

/-- The shift is linear: both halves of rule R151's choice are exclusive-ors. -/
theorem crcShift_xor (a b : Word16) : crcShift (a ^^^ b) = crcShift a ^^^ crcShift b := by
  unfold crcShift
  ext i hi
  rw [BitVec.getLsbD_xor, BitVec.shiftLeft_xor_distrib]
  cases a.getLsbD 15 <;> cases b.getLsbD 15 <;> simp <;> grind

/-- Bit 0 of a shifted register is the bit that was shifted out, since the polynomial ends in 1. -/
theorem crcShift_bit_zero (a : Word16) : (crcShift a).getLsbD 0 = a.getLsbD 15 := by
  unfold crcShift
  cases ha : a.getLsbD 15 <;> simp [Config.crcPoly]

/-- The shift loses nothing. -/
theorem crcShift_injective {a b : Word16} (h : crcShift a = crcShift b) : a = b := by
  have h15 : a.getLsbD 15 = b.getLsbD 15 := by
    rw [← crcShift_bit_zero, ← crcShift_bit_zero, h]
  have hs : a <<< 1 = b <<< 1 := by
    unfold crcShift at h
    rw [← h15] at h
    split at h
    · exact (BitVec.xor_left_inj Config.crcPoly).mp h
    · exact h
  apply BitVec.eq_of_getLsbD_eq
  intro i hi
  by_cases h' : i = 15
  · rw [h', h15]
  · have := congrArg (fun v => v.getLsbD (i + 1)) hs
    simpa only [BitVec.getLsbD_shiftLeft, show i + 1 < 16 by omega, decide_true, Bool.true_and,
      show ¬ i + 1 < 1 by omega, decide_false, Bool.not_false, Nat.add_sub_cancel] using this

/-- A byte is taken linearly in the register and the byte together. -/
theorem crcByte_xor (a b : Word16) (x y : Byte) :
    crcByte (a ^^^ b) (x ^^^ y) = crcByte a x ^^^ crcByte b y := by
  have h : (a ^^^ b) ^^^ ((x ^^^ y).setWidth 16 <<< 8) =
      (a ^^^ (x.setWidth 16 <<< 8)) ^^^ (b ^^^ (y.setWidth 16 <<< 8)) := by
    rw [BitVec.setWidth_xor, BitVec.shiftLeft_xor_distrib]
    ext i hi
    simp only [BitVec.getElem_xor]
    grind
  unfold crcByte
  simp only [h, crcShift_xor]

@[simp] theorem crc16_nil : crc16 [] = 0#16 := rfl

/-- One more byte at the end is one more step (rule R151). -/
@[simp] theorem crc16_append_singleton (M : List Byte) (b : Byte) :
    crc16 (M ++ [b]) = crcByte (crc16 M) b := by
  simp [crc16]

end Sys2Proof.Machine
end

