-- ==== Sys2Proof/Laws/Operands.lean ====
section
/-!
SUPPORT. What the operand reads and the two typed-decoder outcomes can do (rules R67, R201).
-/

namespace Sys2Proof.Machine

/-- Within the frame, `MemRead` gives exactly the bytes asked for (rule R67). -/
theorem memRead_length {F : List Byte} {o k : Nat} (h : o + k ≤ F.length) :
    (memRead F o k).length = k := by
  simp [memRead]; omega

theorem memRead_zero (F : List Byte) (k : Nat) : memRead F 0 k = F.take k := by
  simp [memRead]

/-- Within the frame, `byteAt` is the byte there (rule R67). -/
theorem byteAt_eq_getElem {F : List Byte} {o : Nat} (h : o < F.length) : byteAt F o = F[o] := by
  simp [byteAt, h]

@[simp] theorem byteAt_cons_zero (b : Byte) (F : List Byte) : byteAt (b :: F) 0 = b := rfl

@[simp] theorem byteAt_cons_succ (b : Byte) (F : List Byte) (o : Nat) :
    byteAt (b :: F) (o + 1) = byteAt F o := by
  simp [byteAt]

/-- A `k`-byte little-endian value is below `256 ^ k`, so a field loses nothing at its width. -/
theorem leVal_lt (s : List Byte) : leVal s < 256 ^ s.length := by
  induction s with
  | nil => simp [leVal]
  | cons b s ih =>
    have hb : b.toNat < 256 := b.isLt
    simp only [leVal, List.length_cons, Nat.pow_succ]
    omega

theorem beVal_append_singleton (s : List Byte) (b : Byte) :
    beVal (s ++ [b]) = 256 * beVal s + b.toNat := by
  simp [beVal]

/-- `BE` of a sequence is `LE` of the reverse. -/
theorem beVal_eq_leVal_reverse (s : List Byte) : beVal s = leVal s.reverse := by
  induction s using List.reverseRecOn with
  | nil => rfl
  | append_singleton s b ih =>
    rw [beVal_append_singleton, List.reverse_append, ih]
    simp [leVal]
    omega

theorem beVal_lt (s : List Byte) : beVal s < 256 ^ s.length := by
  rw [beVal_eq_leVal_reverse]
  simpa using leVal_lt s.reverse

theorem ordVal_lt (o : ByteOrder) (s : List Byte) : ordVal o s < 256 ^ s.length := by
  cases o
  · exact leVal_lt s
  · exact beVal_lt s

/-- The two bytes of the received CRC (rule R52). -/
theorem be16_toNat (F : List Byte) (o : Nat) (h : o + 2 ≤ F.length) :
    (be16 F o).toNat = (byteAt F o).toNat * 256 + (byteAt F (o + 1)).toNat := by
  have h0 : o < F.length := by omega
  have h1 : o + 1 < F.length := by omega
  have hm : memRead F o 2 = [byteAt F o, byteAt F (o + 1)] := by
    rw [memRead, List.drop_eq_getElem_cons h0, List.drop_eq_getElem_cons h1,
      byteAt_eq_getElem h0, byteAt_eq_getElem h1, List.take_succ_cons, List.take_succ_cons,
      List.take_zero]
  have b0 := (byteAt F o).isLt
  have b1 := (byteAt F (o + 1)).isLt
  simp only [be16, hm, beVal, List.foldl, BitVec.toNat_ofNat]
  omega

/-- The two outcomes of a typed decoder (rule R201). -/
theorem typed_cases (p : Params) (size : Nat) (P : List Byte) (b : Body) :
    (payloadFails p size P = true ∧ typed p size P b = (.hex P, true)) ∨
    (payloadFails p size P = false ∧ typed p size P b = (b, false)) := by
  unfold typed
  cases payloadFails p size P <;> simp

end Sys2Proof.Machine
end

