-- ==== Sys2Proof/Laws/PerInstr.lean ====
section
/-!
SUPPORT. Statements about every instruction as syntax, one lemma per constructor. `FrameView`: a frame
instruction is the one of its type and fields, its input is the frame of its type and fields, and a
synchronizer input has no frame.
-/

namespace Sys2Proof.Laws.FrameView

/-- What `Instr.frame?` and `encode` say of an instruction agree with `Instr.ofFrame` and
`encodeFrame`. -/
def Statement (i : Instr) : Prop :=
  ∀ t f, i.frame? = some (t, f) →
    Instr.ofFrame t f = i ∧ ∀ p, encode p i = .frame (encodeFrame p t f)

theorem bit (ignored : BitVec 6) (d : Bool) : Statement (.bit ignored d) := by
  intro t f h; cases h

theorem sync (ignored : BitVec 6) (d : Bool) : Statement (.sync ignored d) := by
  intro t f h; cases h

theorem eos : Statement .eos := by
  intro t f h; cases h

theorem reset : Statement .reset := by
  intro t f h; cases h

theorem beacon (f : FrameFields) : Statement (.beacon f) := by
  intro t g h; cases h; exact ⟨rfl, fun _ => rfl⟩

theorem beaconReq (f : FrameFields) : Statement (.beaconReq f) := by
  intro t g h; cases h; exact ⟨rfl, fun _ => rfl⟩

theorem poll (f : FrameFields) : Statement (.poll f) := by
  intro t g h; cases h; exact ⟨rfl, fun _ => rfl⟩

theorem ack (f : FrameFields) : Statement (.ack f) := by
  intro t g h; cases h; exact ⟨rfl, fun _ => rfl⟩

theorem regReq (f : FrameFields) : Statement (.regReq f) := by
  intro t g h; cases h; exact ⟨rfl, fun _ => rfl⟩

theorem deregReq (f : FrameFields) : Statement (.deregReq f) := by
  intro t g h; cases h; exact ⟨rfl, fun _ => rfl⟩

theorem regAck (f : FrameFields) : Statement (.regAck f) := by
  intro t g h; cases h; exact ⟨rfl, fun _ => rfl⟩

theorem reserved07 (f : FrameFields) : Statement (.reserved07 f) := by
  intro t g h; cases h; exact ⟨rfl, fun _ => rfl⟩

theorem reserved08 (f : FrameFields) : Statement (.reserved08 f) := by
  intro t g h; cases h; exact ⟨rfl, fun _ => rfl⟩

theorem reserved09 (f : FrameFields) : Statement (.reserved09 f) := by
  intro t g h; cases h; exact ⟨rfl, fun _ => rfl⟩

theorem reserved0A (f : FrameFields) : Statement (.reserved0A f) := by
  intro t g h; cases h; exact ⟨rfl, fun _ => rfl⟩

theorem reserved0B (f : FrameFields) : Statement (.reserved0B f) := by
  intro t g h; cases h; exact ⟨rfl, fun _ => rfl⟩

theorem reserved0C (f : FrameFields) : Statement (.reserved0C f) := by
  intro t g h; cases h; exact ⟨rfl, fun _ => rfl⟩

theorem reserved0D (f : FrameFields) : Statement (.reserved0D f) := by
  intro t g h; cases h; exact ⟨rfl, fun _ => rfl⟩

theorem reserved0E (f : FrameFields) : Statement (.reserved0E f) := by
  intro t g h; cases h; exact ⟨rfl, fun _ => rfl⟩

theorem reserved0F (f : FrameFields) : Statement (.reserved0F f) := by
  intro t g h; cases h; exact ⟨rfl, fun _ => rfl⟩

theorem rawData (f : FrameFields) : Statement (.rawData f) := by
  intro t g h; cases h; exact ⟨rfl, fun _ => rfl⟩

theorem tinyhan (f : FrameFields) : Statement (.tinyhan f) := by
  intro t g h; cases h; exact ⟨rfl, fun _ => rfl⟩

theorem mqttSn (f : FrameFields) : Statement (.mqttSn f) := by
  intro t g h; cases h; exact ⟨rfl, fun _ => rfl⟩

theorem sixLowpan (f : FrameFields) : Statement (.sixLowpan f) := by
  intro t g h; cases h; exact ⟨rfl, fun _ => rfl⟩

theorem reserved14 (f : FrameFields) : Statement (.reserved14 f) := by
  intro t g h; cases h; exact ⟨rfl, fun _ => rfl⟩

theorem reserved15 (f : FrameFields) : Statement (.reserved15 f) := by
  intro t g h; cases h; exact ⟨rfl, fun _ => rfl⟩

theorem reserved16 (f : FrameFields) : Statement (.reserved16 f) := by
  intro t g h; cases h; exact ⟨rfl, fun _ => rfl⟩

theorem reserved17 (f : FrameFields) : Statement (.reserved17 f) := by
  intro t g h; cases h; exact ⟨rfl, fun _ => rfl⟩

theorem reserved18 (f : FrameFields) : Statement (.reserved18 f) := by
  intro t g h; cases h; exact ⟨rfl, fun _ => rfl⟩

theorem reserved19 (f : FrameFields) : Statement (.reserved19 f) := by
  intro t g h; cases h; exact ⟨rfl, fun _ => rfl⟩

theorem reserved1A (f : FrameFields) : Statement (.reserved1A f) := by
  intro t g h; cases h; exact ⟨rfl, fun _ => rfl⟩

theorem reserved1B (f : FrameFields) : Statement (.reserved1B f) := by
  intro t g h; cases h; exact ⟨rfl, fun _ => rfl⟩

theorem reserved1C (f : FrameFields) : Statement (.reserved1C f) := by
  intro t g h; cases h; exact ⟨rfl, fun _ => rfl⟩

theorem reserved1D (f : FrameFields) : Statement (.reserved1D f) := by
  intro t g h; cases h; exact ⟨rfl, fun _ => rfl⟩

theorem syslog (f : FrameFields) : Statement (.syslog f) := by
  intro t g h; cases h; exact ⟨rfl, fun _ => rfl⟩

theorem extended (f : FrameFields) : Statement (.extended f) := by
  intro t g h; cases h; exact ⟨rfl, fun _ => rfl⟩

end Sys2Proof.Laws.FrameView
end

