-- ==== Sys2Proof/Laws/Decode.lean ====
section
/-!
SUPPORT. What the decoder can do: the opcode map is a bijection (rule R86), and `parseFrame` ends in one
of its four ways (rules R172 to R177, R180).
-/

namespace Sys2Proof

open Sys2Proof.Machine

/-- Every 5-bit index has its own frame type. -/
theorem frameType_bits_ofBits : ∀ b : BitVec 5, (FrameType.ofBits b).bits = b := by decide

/-- Every frame type has its own 5-bit index. -/
@[simp] theorem frameType_ofBits_bits (t : FrameType) : FrameType.ofBits t.bits = t := by
  cases t <;> rfl

/-- Decoding never changes what a frame instruction is: type and fields can be read back. -/
@[simp] theorem frame?_ofFrame (t : FrameType) (f : FrameFields) :
    (Instr.ofFrame t f).frame? = some (t, f) := by
  cases t <;> rfl

/-- The four ends of `parseFrame`, in the order of its checks. -/
theorem parseFrame_cases (p : Params) (F : List Byte) :
    (F.length < 9 ∧ parseFrame p F = .error (.frameTooShort F.length)) ∨
    (9 ≤ F.length ∧ crc16 (F.take (F.length - 2)) ≠ be16 F (F.length - 2) ∧
      parseFrame p F =
        .error (.crcError (crc16 (F.take (F.length - 2))) (be16 F (F.length - 2)))) ∨
    (9 ≤ F.length ∧ crc16 (F.take (F.length - 2)) = be16 F (F.length - 2) ∧
      F.length < (byteAt F 0).toNat + 3 ∧
      parseFrame p F = .error (.payloadTooShort (byteAt F 0) F.length)) ∨
    (9 ≤ F.length ∧ crc16 (F.take (F.length - 2)) = be16 F (F.length - 2) ∧
      (byteAt F 0).toNat + 3 ≤ F.length ∧
      parseFrame p F =
        .ok (FrameType.ofBits (typeBits (flagsOf p.flagsOrder F)), fieldsOf p.flagsOrder F)) := by
  simp only [parseFrame, Config.minDecodable, Config.hdrSize, Config.crcSize, Config.lenBias,
    memRead_zero]
  by_cases h1 : F.length < 9
  · exact .inl ⟨h1, by simp [h1]⟩
  · by_cases h2 : crc16 (F.take (F.length - 2)) = be16 F (F.length - 2)
    · by_cases h3 : F.length < (byteAt F 0).toNat + 3
      · exact .inr (.inr (.inl ⟨by omega, h2, h3, by simp [h1, h2, h3]⟩))
      · exact .inr (.inr (.inr ⟨by omega, h2, by omega, by simp [h1, h2, h3]⟩))
    · exact .inr (.inl ⟨by omega, h2, by simp [h1, h2]⟩)

/-- `decodeFrame` adds nothing to `parseFrame` but the instruction's name. -/
theorem decodeFrame_cases (p : Params) (F : List Byte) :
    (∃ e, parseFrame p F = .error e ∧ decodeFrame p F = .error e) ∨
    (∃ t f, parseFrame p F = .ok (t, f) ∧ decodeFrame p F = .ok (Instr.ofFrame t f)) := by
  unfold decodeFrame
  cases h : parseFrame p F with
  | error e => exact .inl ⟨e, rfl, rfl⟩
  | ok v => obtain ⟨t, f⟩ := v; exact .inr ⟨t, f, rfl, rfl⟩

/-- A symbol is `SYNC` or `BIT` by its sync flag (rule R80). -/
theorem decodeSymbol_eq (y : Byte) :
    decodeSymbol y =
      if symSync y then .sync (symIgnored y) (symData y) else .bit (symIgnored y) (symData y) := rfl

end Sys2Proof
end

