-- ==== Sys2Proof/Laws/Encode.lean ====
section
/-!
SUPPORT. The small laws of the encoder: each field of a symbol byte, of the flags byte and of the trailer
reads back as it was written (rules R52, R80, R84, R85).
-/

namespace Sys2Proof

open Sys2Proof.Machine

/-- The three fields of a symbol byte (rule R80). -/
theorem symbolByte_fields (ig : BitVec 6) (s d : Bool) :
    symSync (symbolByte ig s d) = s ∧ symData (symbolByte ig s d) = d ∧
      symIgnored (symbolByte ig s d) = ig := by
  revert ig s d
  decide +kernel

/-- A symbol byte is its three fields (rule R80). -/
theorem symbolByte_of_fields (y : Byte) : symbolByte (symIgnored y) (symSync y) (symData y) = y := by
  revert y
  decide +kernel

/-- The four fields of the flags byte (rules R84, R176). -/
theorem flagsByte_fields (t : FrameType) (f : FrameFields) :
    typeBits (flagsByte t f) = t.bits ∧ flagAR (flagsByte t f) = f.ar ∧
      flagDP (flagsByte t f) = f.dp ∧ flagBit5 (flagsByte t f) = f.bit5 := by
  unfold flagsByte
  generalize f.dp = a; generalize f.ar = b; generalize f.bit5 = c; generalize t.bits = t
  revert t a b c
  decide +kernel

/-- A flags byte is its four fields (rules R84, R176). -/
theorem flagsByte_of_fields (flags : Byte) :
    (BitVec.ofBool (flagDP flags) ++ (BitVec.ofBool (flagAR flags) ++
      (BitVec.ofBool (flagBit5 flags) ++ typeBits flags)) : BitVec 8) = flags := by
  revert flags
  decide +kernel

/-- The value of the flags byte as the sum of its fields (rule R84). -/
theorem flagsByte_toNat (t : FrameType) (f : FrameFields) :
    (flagsByte t f).toNat =
      128 * f.dp.toNat + 64 * f.ar.toNat + 32 * f.bit5.toNat + t.bits.toNat := by
  unfold flagsByte
  generalize f.dp = a; generalize f.ar = b; generalize f.bit5 = c; generalize t.bits = t
  revert t a b c
  decide +kernel

/-- The two bytes of the trailer, high byte first (rule R85). -/
theorem crcTrailer_eq (c : Word16) :
    crcTrailer c = [BitVec.ofNat 8 (c.toNat / 256), BitVec.ofNat 8 c.toNat] := by
  unfold crcTrailer
  congr 1
  apply BitVec.eq_of_toNat_eq; simp [BitVec.extractLsb'_toNat, Nat.shiftRight_eq_div_pow]

/-- The trailer reads back big-endian as the value it was written from (rules R52, R85). -/
theorem be16_crcTrailer (M : List Byte) (c : Word16) : be16 (M ++ crcTrailer c) M.length = c := by
  apply BitVec.eq_of_toNat_eq
  have := c.isLt
  rw [be16_toNat _ _ (by simp [crcTrailer_eq]), crcTrailer_eq]
  simp [byteAt]; omega

/-- `withTrailer` adds the two bytes of rule R85. -/
theorem withTrailer_length (M : List Byte) : (withTrailer M).length = M.length + 2 := by
  simp [withTrailer, crcTrailer]

/-- The header has 7 bytes under either flags order (rule R84). -/
theorem header_length (o : ByteOrder) (t : FrameType) (f : FrameFields) :
    (header o t f).length = 7 := by
  cases o <;> rfl

end Sys2Proof
end

