-- ==== Sys2Proof/Laws/Memory.lean ====
section
/-!
SUPPORT. The laws of the BUF space: what an append leaves and what it adds, and that it keeps the
buffer within its 258 bytes.
-/

namespace Sys2Proof.Machine

/-- An append leaves every offset but the end as it was. -/
theorem Memory.read_append_other (m : Memory) (b : Byte) {o : Nat} (h : o ≠ m.length) :
    (m.append b).read o = m.read o := by
  unfold Memory.append Memory.read
  rw [List.getElem?_append]
  split
  · rfl
  · rename_i hlt
    have hge : m.length < o := by omega
    rw [List.getElem?_eq_none (by simp; omega), List.getElem?_eq_none (by omega)]

/-- The appended byte is read at the offset the buffer ended at. -/
theorem Memory.read_append_end (m : Memory) (b : Byte) : (m.append b).read m.length = some b := by
  simp [Memory.append, Memory.read]

@[simp] theorem Memory.length_append (m : Memory) (b : Byte) :
    (m.append b).length = m.length + 1 := by
  simp [Memory.append]

/-- An append to a buffer with room keeps it within its 258 bytes. -/
theorem Memory.wf_append {m : Memory} (b : Byte) (h : m.length < Config.bufCapacity) :
    (m.append b).wf = true := by
  simp only [Memory.wf, Memory.length_append, decide_eq_true_eq]
  omega

/-- The cleared buffer, which a sync pulse and `RESET` write, is within its 258 bytes. -/
theorem Memory.wf_nil : Memory.wf [] = true := rfl

end Sys2Proof.Machine
end

