-- ==== Sys2Proof/Laws/State.lean ====
section
/-!
SUPPORT. One lemma per field per update of the state, each true by `rfl`, so that no later proof unfolds
a record update. Lemma `<update>_<field>` says what the update leaves in that field.
-/

namespace Sys2Proof.Machine

@[simp] theorem State.shift_sr (d : Bool) (s : State) :
    (s.shift d).sr = (s.sr <<< 1) ||| (BitVec.ofBool d).setWidth 8 := rfl
@[simp] theorem State.shift_synced (d : Bool) (s : State) : (s.shift d).synced = s.synced := rfl
@[simp] theorem State.shift_bitCount (d : Bool) (s : State) :
    (s.shift d).bitCount = s.bitCount := rfl
@[simp] theorem State.shift_byteCount (d : Bool) (s : State) :
    (s.shift d).byteCount = s.byteCount := rfl
@[simp] theorem State.shift_declaredLength (d : Bool) (s : State) :
    (s.shift d).declaredLength = s.declaredLength := rfl
@[simp] theorem State.shift_buffer (d : Bool) (s : State) : (s.shift d).buffer = s.buffer := rfl
@[simp] theorem State.shift_closed (d : Bool) (s : State) : (s.shift d).closed = s.closed := rfl
@[simp] theorem State.shift_params (d : Bool) (s : State) : (s.shift d).params = s.params := rfl
@[simp] theorem State.shift_input (d : Bool) (s : State) : (s.shift d).input = s.input := rfl
@[simp] theorem State.shift_frames (d : Bool) (s : State) : (s.shift d).frames = s.frames := rfl
@[simp] theorem State.shift_reports (d : Bool) (s : State) : (s.shift d).reports = s.reports := rfl

@[simp] theorem State.syncReset_sr (s : State) : (s.syncReset).sr = s.sr := rfl
@[simp] theorem State.syncReset_synced (s : State) : (s.syncReset).synced = true := rfl
@[simp] theorem State.syncReset_bitCount (s : State) : (s.syncReset).bitCount = 0#3 := rfl
@[simp] theorem State.syncReset_byteCount (s : State) : (s.syncReset).byteCount = 0#32 := rfl
@[simp] theorem State.syncReset_declaredLength (s : State) :
    (s.syncReset).declaredLength = 0#32 := rfl
@[simp] theorem State.syncReset_buffer (s : State) : (s.syncReset).buffer = [] := rfl
@[simp] theorem State.syncReset_closed (s : State) : (s.syncReset).closed = s.closed := rfl
@[simp] theorem State.syncReset_params (s : State) : (s.syncReset).params = s.params := rfl
@[simp] theorem State.syncReset_input (s : State) : (s.syncReset).input = s.input := rfl
@[simp] theorem State.syncReset_frames (s : State) : (s.syncReset).frames = s.frames := rfl
@[simp] theorem State.syncReset_reports (s : State) : (s.syncReset).reports = s.reports := rfl

@[simp] theorem State.countBit_sr (s : State) : (s.countBit).sr = s.sr := rfl
@[simp] theorem State.countBit_synced (s : State) : (s.countBit).synced = s.synced := rfl
@[simp] theorem State.countBit_bitCount (s : State) :
    (s.countBit).bitCount = s.bitCount + 1#3 := rfl
@[simp] theorem State.countBit_byteCount (s : State) : (s.countBit).byteCount = s.byteCount := rfl
@[simp] theorem State.countBit_declaredLength (s : State) :
    (s.countBit).declaredLength = s.declaredLength := rfl
@[simp] theorem State.countBit_buffer (s : State) : (s.countBit).buffer = s.buffer := rfl
@[simp] theorem State.countBit_closed (s : State) : (s.countBit).closed = s.closed := rfl
@[simp] theorem State.countBit_params (s : State) : (s.countBit).params = s.params := rfl
@[simp] theorem State.countBit_input (s : State) : (s.countBit).input = s.input := rfl
@[simp] theorem State.countBit_frames (s : State) : (s.countBit).frames = s.frames := rfl
@[simp] theorem State.countBit_reports (s : State) : (s.countBit).reports = s.reports := rfl

@[simp] theorem State.appendByte_sr (s : State) : (s.appendByte).sr = s.sr := rfl
@[simp] theorem State.appendByte_synced (s : State) : (s.appendByte).synced = s.synced := rfl
@[simp] theorem State.appendByte_bitCount (s : State) : (s.appendByte).bitCount = 0#3 := rfl
@[simp] theorem State.appendByte_byteCount (s : State) :
    (s.appendByte).byteCount = s.byteCount + 1#32 := rfl
@[simp] theorem State.appendByte_declaredLength (s : State) :
    (s.appendByte).declaredLength = s.declaredLength := rfl
@[simp] theorem State.appendByte_buffer (s : State) :
    (s.appendByte).buffer = s.buffer.append s.sr := rfl
@[simp] theorem State.appendByte_closed (s : State) : (s.appendByte).closed = s.closed := rfl
@[simp] theorem State.appendByte_params (s : State) : (s.appendByte).params = s.params := rfl
@[simp] theorem State.appendByte_input (s : State) : (s.appendByte).input = s.input := rfl
@[simp] theorem State.appendByte_frames (s : State) : (s.appendByte).frames = s.frames := rfl
@[simp] theorem State.appendByte_reports (s : State) : (s.appendByte).reports = s.reports := rfl

@[simp] theorem State.latchLength_sr (s : State) : (s.latchLength).sr = s.sr := rfl
@[simp] theorem State.latchLength_synced (s : State) : (s.latchLength).synced = s.synced := rfl
@[simp] theorem State.latchLength_bitCount (s : State) :
    (s.latchLength).bitCount = s.bitCount := rfl
@[simp] theorem State.latchLength_byteCount (s : State) :
    (s.latchLength).byteCount = s.byteCount := rfl
@[simp] theorem State.latchLength_declaredLength (s : State) :
    (s.latchLength).declaredLength = if s.byteCount = 1#32 then s.sr.setWidth 32 + BitVec.ofNat 32 Config.lenBias else s.declaredLength := rfl
@[simp] theorem State.latchLength_buffer (s : State) : (s.latchLength).buffer = s.buffer := rfl
@[simp] theorem State.latchLength_closed (s : State) : (s.latchLength).closed = s.closed := rfl
@[simp] theorem State.latchLength_params (s : State) : (s.latchLength).params = s.params := rfl
@[simp] theorem State.latchLength_input (s : State) : (s.latchLength).input = s.input := rfl
@[simp] theorem State.latchLength_frames (s : State) : (s.latchLength).frames = s.frames := rfl
@[simp] theorem State.latchLength_reports (s : State) : (s.latchLength).reports = s.reports := rfl

@[simp] theorem State.endFrame_sr (s : State) : (s.endFrame).sr = s.sr := rfl
@[simp] theorem State.endFrame_synced (s : State) : (s.endFrame).synced = false := rfl
@[simp] theorem State.endFrame_bitCount (s : State) : (s.endFrame).bitCount = s.bitCount := rfl
@[simp] theorem State.endFrame_byteCount (s : State) : (s.endFrame).byteCount = 0#32 := rfl
@[simp] theorem State.endFrame_declaredLength (s : State) :
    (s.endFrame).declaredLength = s.declaredLength := rfl
@[simp] theorem State.endFrame_buffer (s : State) : (s.endFrame).buffer = s.buffer := rfl
@[simp] theorem State.endFrame_closed (s : State) : (s.endFrame).closed = s.closed := rfl
@[simp] theorem State.endFrame_params (s : State) : (s.endFrame).params = s.params := rfl
@[simp] theorem State.endFrame_input (s : State) : (s.endFrame).input = s.input := rfl
@[simp] theorem State.endFrame_frames (s : State) : (s.endFrame).frames = s.frames := rfl
@[simp] theorem State.endFrame_reports (s : State) : (s.endFrame).reports = s.reports := rfl

@[simp] theorem State.report_sr (r : DecodeResult) (s : State) : (s.report r).sr = s.sr := rfl
@[simp] theorem State.report_synced (r : DecodeResult) (s : State) :
    (s.report r).synced = s.synced := rfl
@[simp] theorem State.report_bitCount (r : DecodeResult) (s : State) :
    (s.report r).bitCount = s.bitCount := rfl
@[simp] theorem State.report_byteCount (r : DecodeResult) (s : State) :
    (s.report r).byteCount = s.byteCount := rfl
@[simp] theorem State.report_declaredLength (r : DecodeResult) (s : State) :
    (s.report r).declaredLength = s.declaredLength := rfl
@[simp] theorem State.report_buffer (r : DecodeResult) (s : State) :
    (s.report r).buffer = s.buffer := rfl
@[simp] theorem State.report_closed (r : DecodeResult) (s : State) :
    (s.report r).closed = s.closed := rfl
@[simp] theorem State.report_params (r : DecodeResult) (s : State) :
    (s.report r).params = s.params := rfl
@[simp] theorem State.report_input (r : DecodeResult) (s : State) :
    (s.report r).input = s.input := rfl
@[simp] theorem State.report_frames (r : DecodeResult) (s : State) :
    (s.report r).frames = s.frames := rfl
@[simp] theorem State.report_reports (r : DecodeResult) (s : State) :
    (s.report r).reports = s.reports ++ [reportOf r] := rfl

@[simp] theorem State.emit_sr (F : List Byte) (s : State) : (s.emit F).sr = s.sr := rfl
@[simp] theorem State.emit_synced (F : List Byte) (s : State) : (s.emit F).synced = s.synced := rfl
@[simp] theorem State.emit_bitCount (F : List Byte) (s : State) :
    (s.emit F).bitCount = s.bitCount := rfl
@[simp] theorem State.emit_byteCount (F : List Byte) (s : State) :
    (s.emit F).byteCount = s.byteCount := rfl
@[simp] theorem State.emit_declaredLength (F : List Byte) (s : State) :
    (s.emit F).declaredLength = s.declaredLength := rfl
@[simp] theorem State.emit_buffer (F : List Byte) (s : State) : (s.emit F).buffer = s.buffer := rfl
@[simp] theorem State.emit_closed (F : List Byte) (s : State) : (s.emit F).closed = s.closed := rfl
@[simp] theorem State.emit_params (F : List Byte) (s : State) : (s.emit F).params = s.params := rfl
@[simp] theorem State.emit_input (F : List Byte) (s : State) : (s.emit F).input = s.input := rfl
@[simp] theorem State.emit_frames (F : List Byte) (s : State) :
    (s.emit F).frames = s.frames ++ [F] := rfl
@[simp] theorem State.emit_reports (F : List Byte) (s : State) :
    (s.emit F).reports = s.reports := rfl

@[simp] theorem State.close_sr (s : State) : (s.close).sr = s.sr := rfl
@[simp] theorem State.close_synced (s : State) : (s.close).synced = s.synced := rfl
@[simp] theorem State.close_bitCount (s : State) : (s.close).bitCount = s.bitCount := rfl
@[simp] theorem State.close_byteCount (s : State) : (s.close).byteCount = s.byteCount := rfl
@[simp] theorem State.close_declaredLength (s : State) :
    (s.close).declaredLength = s.declaredLength := rfl
@[simp] theorem State.close_buffer (s : State) : (s.close).buffer = s.buffer := rfl
@[simp] theorem State.close_closed (s : State) : (s.close).closed = true := rfl
@[simp] theorem State.close_params (s : State) : (s.close).params = s.params := rfl
@[simp] theorem State.close_input (s : State) : (s.close).input = s.input := rfl
@[simp] theorem State.close_frames (s : State) : (s.close).frames = s.frames := rfl
@[simp] theorem State.close_reports (s : State) : (s.close).reports = s.reports := rfl

@[simp] theorem State.resetRegisters_sr (s : State) : (s.resetRegisters).sr = 0#8 := rfl
@[simp] theorem State.resetRegisters_synced (s : State) : (s.resetRegisters).synced = false := rfl
@[simp] theorem State.resetRegisters_bitCount (s : State) : (s.resetRegisters).bitCount = 0#3 := rfl
@[simp] theorem State.resetRegisters_byteCount (s : State) :
    (s.resetRegisters).byteCount = 0#32 := rfl
@[simp] theorem State.resetRegisters_declaredLength (s : State) :
    (s.resetRegisters).declaredLength = 0#32 := rfl
@[simp] theorem State.resetRegisters_buffer (s : State) : (s.resetRegisters).buffer = [] := rfl
@[simp] theorem State.resetRegisters_closed (s : State) : (s.resetRegisters).closed = false := rfl
@[simp] theorem State.resetRegisters_params (s : State) :
    (s.resetRegisters).params = s.params := rfl
@[simp] theorem State.resetRegisters_input (s : State) : (s.resetRegisters).input = s.input := rfl
@[simp] theorem State.resetRegisters_frames (s : State) :
    (s.resetRegisters).frames = s.frames := rfl
@[simp] theorem State.resetRegisters_reports (s : State) :
    (s.resetRegisters).reports = s.reports := rfl

@[simp] theorem State.setInput_sr (rest : List Input) (s : State) :
    (s.setInput rest).sr = s.sr := rfl
@[simp] theorem State.setInput_synced (rest : List Input) (s : State) :
    (s.setInput rest).synced = s.synced := rfl
@[simp] theorem State.setInput_bitCount (rest : List Input) (s : State) :
    (s.setInput rest).bitCount = s.bitCount := rfl
@[simp] theorem State.setInput_byteCount (rest : List Input) (s : State) :
    (s.setInput rest).byteCount = s.byteCount := rfl
@[simp] theorem State.setInput_declaredLength (rest : List Input) (s : State) :
    (s.setInput rest).declaredLength = s.declaredLength := rfl
@[simp] theorem State.setInput_buffer (rest : List Input) (s : State) :
    (s.setInput rest).buffer = s.buffer := rfl
@[simp] theorem State.setInput_closed (rest : List Input) (s : State) :
    (s.setInput rest).closed = s.closed := rfl
@[simp] theorem State.setInput_params (rest : List Input) (s : State) :
    (s.setInput rest).params = s.params := rfl
@[simp] theorem State.setInput_input (rest : List Input) (s : State) :
    (s.setInput rest).input = rest := rfl
@[simp] theorem State.setInput_frames (rest : List Input) (s : State) :
    (s.setInput rest).frames = s.frames := rfl
@[simp] theorem State.setInput_reports (rest : List Input) (s : State) :
    (s.setInput rest).reports = s.reports := rfl

@[simp] theorem raiseError_sr (e : DecodeError) (s : State) :
    (raiseError e s).sr = s.sr := rfl
@[simp] theorem raiseError_synced (e : DecodeError) (s : State) :
    (raiseError e s).synced = s.synced := rfl
@[simp] theorem raiseError_bitCount (e : DecodeError) (s : State) :
    (raiseError e s).bitCount = s.bitCount := rfl
@[simp] theorem raiseError_byteCount (e : DecodeError) (s : State) :
    (raiseError e s).byteCount = s.byteCount := rfl
@[simp] theorem raiseError_declaredLength (e : DecodeError) (s : State) :
    (raiseError e s).declaredLength = s.declaredLength := rfl
@[simp] theorem raiseError_buffer (e : DecodeError) (s : State) :
    (raiseError e s).buffer = s.buffer := rfl
@[simp] theorem raiseError_closed (e : DecodeError) (s : State) :
    (raiseError e s).closed = s.closed := rfl
@[simp] theorem raiseError_params (e : DecodeError) (s : State) :
    (raiseError e s).params = s.params := rfl
@[simp] theorem raiseError_input (e : DecodeError) (s : State) :
    (raiseError e s).input = s.input := rfl
@[simp] theorem raiseError_frames (e : DecodeError) (s : State) :
    (raiseError e s).frames = s.frames := rfl
@[simp] theorem raiseError_reports (e : DecodeError) (s : State) :
    (raiseError e s).reports = s.reports ++ [reportOf (.error e)] := rfl

end Sys2Proof.Machine
end

