-- ==== Sys2Proof/Laws/Ops.lean ====
section
/-!
SUPPORT. What each shared operation, and the step, can do; said once, so that later proofs cite these
and do not unfold the operations.
-/

namespace Sys2Proof.Machine

/-- The new `sr`: the old bits 6:0 move up and `d` is bit 0 (rule R121). -/
theorem shift_sr_eq (d : Bool) (s : State) :
    (s.shift d).sr = s.sr.extractLsb' 0 7 ++ BitVec.ofBool d := by
  rw [State.shift_sr]
  generalize s.sr = x
  revert x d
  decide +kernel

/-- The hand-over puts out the frame and the report of its decode, and does nothing else. -/
theorem deliver_eq (F : List Byte) (s : State) :
    deliver F s = (s.emit F).report (decodeResult s.params F) := by
  unfold deliver decodeResult
  cases parseFrame s.params F <;> rfl

/-- A sync pulse never emits (rule R127). -/
theorem syncStep_sync (d : Bool) (s : State) :
    s.syncStep true d = ((s.shift d).syncReset.countBit, none) := rfl

/-- The four things a symbol without sync flag can do (rules R126, R130). -/
theorem syncStep_bit_cases (d : Bool) (s : State) :
    (s.synced = false ∧ s.syncStep false d = (s.shift d, none)) ∨
    (s.synced = true ∧ s.bitCount ≠ 7#3 ∧ s.syncStep false d = ((s.shift d).countBit, none)) ∨
    (s.synced = true ∧ s.bitCount = 7#3 ∧
      (s.shift d).appendByte.latchLength.frameComplete = false ∧
      s.syncStep false d = ((s.shift d).appendByte.latchLength, none)) ∨
    (s.synced = true ∧ s.bitCount = 7#3 ∧
      (s.shift d).appendByte.latchLength.frameComplete = true ∧
      s.syncStep false d =
        ((s.shift d).appendByte.latchLength.endFrame, some (s.buffer.append (s.shift d).sr))) := by
  have key : ∀ b : BitVec 3, b.toNat + 1 = 8 ↔ b = 7#3 := by decide
  unfold State.syncStep State.count State.takeByte
  cases hs : s.synced
  · simp [hs]
  · by_cases hb : s.bitCount = 7#3
    · cases hc : (s.shift d).appendByte.latchLength.frameComplete <;>
        simp [hs, hb, hc]
    · have := (key s.bitCount).not.mpr hb
      simp [hs, hb, this]

/-- What one symbol does to an open block: a sync pulse, a bit while UNSYNCED, a counted bit, an
appended byte, or the last byte of a frame (rule R130). -/
theorem takeSymbol_cases (sync d : Bool) (s : State) :
    (sync = true ∧ takeSymbol sync d s = (s.shift d).syncReset.countBit) ∨
    (sync = false ∧ s.synced = false ∧ takeSymbol sync d s = s.shift d) ∨
    (sync = false ∧ s.synced = true ∧ s.bitCount ≠ 7#3 ∧
      takeSymbol sync d s = (s.shift d).countBit) ∨
    (sync = false ∧ s.synced = true ∧ s.bitCount = 7#3 ∧
      (s.shift d).appendByte.latchLength.frameComplete = false ∧
      takeSymbol sync d s = (s.shift d).appendByte.latchLength) ∨
    (sync = false ∧ s.synced = true ∧ s.bitCount = 7#3 ∧
      (s.shift d).appendByte.latchLength.frameComplete = true ∧
      takeSymbol sync d s =
        (((s.shift d).appendByte.latchLength.endFrame).emit (s.buffer.append (s.shift d).sr)).report
          (decodeResult s.params (s.buffer.append (s.shift d).sr))) := by
  cases sync
  · rcases syncStep_bit_cases d s with ⟨h, e⟩ | ⟨h, hb, e⟩ | ⟨h, hb, hc, e⟩ | ⟨h, hb, hc, e⟩
    · simp [takeSymbol, e, h]
    · simp [takeSymbol, e, h, hb]
    · simp [takeSymbol, e, h, hb, hc]
    · simp [takeSymbol, e, h, hb, hc, deliver_eq]
  · exact .inl ⟨rfl, by simp [takeSymbol, syncStep_sync]⟩

/-- A symbol offered to the block: taken while it is open, without effect while it is closed. -/
theorem offerSymbol_cases (sync d : Bool) (s : State) :
    (s.closed = true ∧ offerSymbol sync d s = s) ∨
    (s.closed = false ∧ offerSymbol sync d s = takeSymbol sync d s) := by
  unfold offerSymbol
  cases s.closed <;> simp

/-- A frame instruction puts out the report of its dispatched record, and does nothing else. -/
theorem exec_ofFrame (t : FrameType) (f : FrameFields) (s : State) :
    exec (Instr.ofFrame t f) s =
      .next (s.report (decodedRecord t f (dispatch s.params t f.payload))) := by
  cases t <;> rfl

/-- Everything an instruction can do. -/
theorem exec_cases (i : Instr) (s : State) :
    (∃ ig d, i = .bit ig d ∧ exec i s = .next (offerSymbol false d s)) ∨
    (∃ ig d, i = .sync ig d ∧ exec i s = .next (offerSymbol true d s)) ∨
    (i = .eos ∧ exec i s = .next s.close) ∨
    (i = .reset ∧ exec i s = .next s.resetRegisters) ∨
    (∃ t f, i = Instr.ofFrame t f ∧
      exec i s = .next (s.report (decodedRecord t f (dispatch s.params t f.payload)))) := by
  cases i with
  | bit ig d => exact .inl ⟨ig, d, rfl, rfl⟩
  | sync ig d => exact .inr (.inl ⟨ig, d, rfl, rfl⟩)
  | eos => exact .inr (.inr (.inl ⟨rfl, rfl⟩))
  | reset => exact .inr (.inr (.inr (.inl ⟨rfl, rfl⟩)))
  | _ f => exact .inr (.inr (.inr (.inr ⟨_, f, rfl, rfl⟩)))

/-- The decode of a frame handed to the decoder, as the step does it: one report. -/
theorem step_frame (s : State) (F : List Byte) (rest : List Input)
    (h : s.input = .frame F :: rest) :
    step s = .next ((s.setInput rest).report (decodeResult s.params F)) := by
  simp only [step, fetch, h, decodeInput, State.setInput_params, decodeResult]
  rcases decodeFrame_cases s.params F with ⟨e, hp, hd⟩ | ⟨t, f, hp, hd⟩
  · simp only [hp, hd]; rfl
  · simp only [hp, hd, exec_ofFrame]; rfl

/-- Everything a step can do, by the input it takes. -/
theorem step_cases (s : State) :
    (s.input = [] ∧ step s = .next s) ∨
    (∃ y rest, s.input = .stream (.symbol y) :: rest ∧
      step s = .next (offerSymbol (symSync y) (symData y) (s.setInput rest))) ∨
    (∃ rest, s.input = .stream .eos :: rest ∧ step s = .next (s.setInput rest).close) ∨
    (∃ lost rest, s.input = .reset lost :: rest ∧
      step s = .next (s.setInput rest).resetRegisters) ∨
    (∃ F rest, s.input = .frame F :: rest ∧
      step s = .next ((s.setInput rest).report (decodeResult s.params F))) := by
  cases h : s.input with
  | nil => exact .inl ⟨rfl, by simp [step, fetch, h]⟩
  | cons x rest =>
    match x with
    | .stream (.symbol y) =>
      refine .inr (.inl ⟨y, rest, rfl, ?_⟩)
      simp only [step, fetch, h, decodeInput, decodeSymbol_eq]
      cases symSync y <;> rfl
    | .stream .eos => exact .inr (.inr (.inl ⟨rest, rfl, by simp only [step, fetch, h]; rfl⟩))
    | .reset lost =>
      exact .inr (.inr (.inr (.inl ⟨lost, rest, rfl, by simp only [step, fetch, h]; rfl⟩)))
    | .frame F => exact .inr (.inr (.inr (.inr ⟨F, rest, rfl, step_frame s F rest h⟩)))

end Sys2Proof.Machine
end

