-- ==== Sys2Proof/Tests/Slice0.lean ====
section
/-!
SUPPORT. Tests of one step or one decode each. Expected results are the spec's own: the vectors `V<n>` and
examples of `95_test_vectors.md`, the examples in rules R126 and R127, and the values rules R151, R251
and R280 write out. The theorems `test_witness…` show that the hypotheses of a statement can be met.
-/

namespace Sys2Proof.Tests

set_option Elab.async false

open Sys2Proof Sys2Proof.Machine

/-! ### Helpers -/

/-- An open UNSYNCED block, right after reset. -/
def unsynced : State := State.reset

/-- The block of the example in rule R126: one bit short of its second byte. -/
def beforeByte : State :=
  { State.reset with
    sr := 0x55#8, synced := true, bitCount := 7#3, byteCount := 1#32, declaredLength := 3#32
    buffer := [0x00#8] }

/-- One bit short of the last byte of the frame of program P3, `00 AB CD`. -/
def beforeLastByte : State :=
  { State.reset with
    sr := 0xE6#8, synced := true, bitCount := 7#3, byteCount := 2#32, declaredLength := 3#32
    buffer := [0x00#8, 0xAB#8] }

/-- One bit short of the first byte of a frame. -/
def beforeFirstByte (sr : Byte) : State :=
  { State.reset with sr := sr, synced := true, bitCount := 7#3 }

/-- The end of V15: closed, with a frame half assembled. -/
def closedMidFrame : State :=
  { State.reset with
    synced := true, bitCount := 6#3, byteCount := 3#32, declaredLength := 9#32
    buffer := [0x06#8, 0x03#8, 0x00#8], closed := true }

/-- A state with the given input. -/
def withInput (s : State) (input : List Input) : State := { s with input := input }

/-- The next state of an outcome. -/
def nextOf (o : Host.Outcome State Fault Refusal) : Option State :=
  match o with
  | .next t => some t
  | .fault _ => none
  | .refused _ => none

/-- The line of the last report of an outcome. -/
def lastLine (o : Host.Outcome State Fault Refusal) : Line :=
  match o with
  | .next t => (t.reports.getLast?.map (·.line)).getD []
  | .fault _ => []
  | .refused _ => []

/-- The payload of V39, `Hello world!`. -/
def helloPayload : List Byte :=
  [0x48#8, 0x65#8, 0x6C#8, 0x6C#8, 0x6F#8, 0x20#8, 0x77#8, 0x6F#8, 0x72#8, 0x6C#8, 0x64#8, 0x21#8]

/-- The frame of a row of V39: bytes 0 to 6, the payload, the CRC that the row writes out. -/
def helloFrame (t crcHi crcLo : Byte) : List Byte :=
  [0x12#8, t, 0x00#8, 0x01#8, 0x02#8, 0x03#8, t] ++ helloPayload ++ [crcHi, crcLo]

/-- The fields of a row of V39. -/
def hello (t : Byte) : FrameFields where
  length := 0x12#8
  dp := false
  ar := false
  bit5 := false
  flagsHi := 0x00#8
  net := 0x01#8
  dest := 0x02#8
  src := 0x03#8
  seq := t
  payload := helloPayload

/-- The 9-byte ACK frame of V24. -/
def ackFrame : List Byte :=
  [0x06#8, 0x03#8, 0x00#8, 0x01#8, 0x02#8, 0x03#8, 0x2C#8, 0xC7#8, 0xAC#8]

/-- The frame of V5, with both byte orders `BE`. -/
def bigEndianFrame : List Byte :=
  [0x10#8, 0x00#8, 0x04#8, 0x00#8, 0x03#8, 0x02#8, 0x01#8, 0x11#8, 0x22#8, 0x33#8, 0x44#8, 0x55#8,
    0x66#8, 0x77#8, 0x88#8, 0x00#8, 0x05#8, 0xAA#8, 0xB4#8]

/-- The parameters of V5. -/
def bigEndian : Params := { flagsOrder := .be, fieldOrder := .be, strictPayloadLen := false }

/-! ### Well-formedness: a length byte above the real length is refused (rule R175) -/

theorem test_wellFormedAccepts :
    (Instr.ack { hello 0x03#8 with length := 0x12#8 }).wellFormed = true := by decide
theorem test_wellFormedRefusesLongLength :
    (Instr.ack { hello 0x03#8 with length := 0x13#8 }).wellFormed = false := by decide
theorem test_wellFormedDoesNotWrap :
    (Instr.ack { hello 0x03#8 with length := 0xFF#8 }).wellFormed = false := by decide
theorem test_illFormedDecodesToNothing :
    decodeInput Config.defaultParams
      (encode Config.defaultParams (.ack { hello 0x03#8 with length := 0x13#8 })) =
      .error (.payloadTooShort 0x13#8 21) := by decide +kernel

/-! ### The four inputs of the synchronizer: their decoding, and one step each -/

theorem test_decodeBit :
    decodeInput Config.defaultParams (.stream (.symbol 0x01#8)) = .ok (.bit 0#6 true) := by decide
theorem test_decodeSync :
    decodeInput Config.defaultParams (.stream (.symbol 0xFE#8)) = .ok (.sync 0x3F#6 false) := by
  decide
theorem test_decodeEos :
    decodeInput Config.defaultParams (.stream .eos) = .ok .eos := by decide
theorem test_decodeReset :
    decodeInput Config.defaultParams (.reset (some (.symbol 0x03#8))) = .ok .reset := by decide

/-- The example of rule R126. -/
theorem test_execBit :
    exec (.bit 0#6 true) beforeByte = .next
      { beforeByte with
        sr := 0xAB#8, bitCount := 0#3, byteCount := 2#32, buffer := [0x00#8, 0xAB#8] } := rfl
/-- The example of rule R127. -/
theorem test_execSync :
    exec (.sync 0#6 false)
      { State.reset with
        sr := 0x40#8, synced := true, bitCount := 4#3, byteCount := 2#32
        declaredLength := 19#32, buffer := [0x10#8, 0x04#8] } = .next
      { State.reset with sr := 0x80#8, synced := true, bitCount := 1#3 } := rfl
/-- V15. -/
theorem test_execEos :
    exec .eos { closedMidFrame with closed := false } = .next closedMidFrame := rfl
/-- V17. -/
theorem test_execReset : exec .reset closedMidFrame = .next State.reset := rfl

/-! ### The frame types: every row of V39, decoded and run -/

theorem test_decodeBeacon :
    decodeInput Config.defaultParams (.frame (helloFrame 0x00#8 0xCD#8 0xC7#8)) =
      .ok (.beacon (hello 0x00#8)) := by
  decide +kernel
theorem test_lineBeacon :
    lastLine (exec (.beacon (hello 0x00#8)) unsynced) =
      "[01] 03->02 (00)       :       BEACON : UUID=6F77206F6C6C6548 TIMESTAMP=27762 INTERVAL=33".toList := by
  decide +kernel

theorem test_decodeBeaconReq :
    decodeInput Config.defaultParams (.frame (helloFrame 0x01#8 0x78#8 0x95#8)) =
      .ok (.beaconReq (hello 0x01#8)) := by
  decide +kernel
theorem test_lineBeaconReq :
    lastLine (exec (.beaconReq (hello 0x01#8)) unsynced) =
      "[01] 03->02 (01)       :   BEACON_REQ : ".toList := by
  decide +kernel

theorem test_decodePoll :
    decodeInput Config.defaultParams (.frame (helloFrame 0x02#8 0xB7#8 0x42#8)) =
      .ok (.poll (hello 0x02#8)) := by
  decide +kernel
theorem test_linePoll :
    lastLine (exec (.poll (hello 0x02#8)) unsynced) =
      "[01] 03->02 (02)       :         POLL : ".toList := by
  decide +kernel

theorem test_decodeAck :
    decodeInput Config.defaultParams (.frame (helloFrame 0x03#8 0x02#8 0x10#8)) =
      .ok (.ack (hello 0x03#8)) := by
  decide +kernel
theorem test_lineAck :
    lastLine (exec (.ack (hello 0x03#8)) unsynced) =
      "[01] 03->02 (03)       :          ACK : ".toList := by
  decide +kernel

theorem test_decodeRegReq :
    decodeInput Config.defaultParams (.frame (helloFrame 0x04#8 0x38#8 0xCD#8)) =
      .ok (.regReq (hello 0x04#8)) := by
  decide +kernel
theorem test_lineRegReq :
    lastLine (exec (.regReq (hello 0x04#8)) unsynced) =
      "[01] 03->02 (04)       :      REG_REQ : UUID=6F77206F6C6C6548 HEARTBEAT=4 secs (SLEEPY)".toList := by
  decide +kernel

theorem test_decodeDeregReq :
    decodeInput Config.defaultParams (.frame (helloFrame 0x05#8 0x8D#8 0x9F#8)) =
      .ok (.deregReq (hello 0x05#8)) := by
  decide +kernel
theorem test_lineDeregReq :
    lastLine (exec (.deregReq (hello 0x05#8)) unsynced) =
      "[01] 03->02 (05)       :    DEREG_REQ : UUID=6F77206F6C6C6548 REASON=UNKNOWN".toList := by
  decide +kernel

theorem test_decodeRegAck :
    decodeInput Config.defaultParams (.frame (helloFrame 0x06#8 0x42#8 0x48#8)) =
      .ok (.regAck (hello 0x06#8)) := by
  decide +kernel
theorem test_lineRegAck :
    lastLine (exec (.regAck (hello 0x06#8)) unsynced) =
      "[01] 03->02 (06)       :      REG_ACK : UUID=6F77206F6C6C6548 ADDR=72 STATUS=UNKNOWN".toList := by
  decide +kernel

theorem test_decodeReserved07 :
    decodeInput Config.defaultParams (.frame (helloFrame 0x07#8 0xF7#8 0x1A#8)) =
      .ok (.reserved07 (hello 0x07#8)) := by
  decide +kernel
theorem test_lineReserved07 :
    lastLine (exec (.reserved07 (hello 0x07#8)) unsynced) =
      "[01] 03->02 (07)       :   RESERVED07 : 48 65 6C 6C 6F 20 77 6F 72 6C 64 21".toList := by
  decide +kernel

theorem test_decodeReserved08 :
    decodeInput Config.defaultParams (.frame (helloFrame 0x08#8 0x37#8 0xF2#8)) =
      .ok (.reserved08 (hello 0x08#8)) := by
  decide +kernel
theorem test_lineReserved08 :
    lastLine (exec (.reserved08 (hello 0x08#8)) unsynced) =
      "[01] 03->02 (08)       :   RESERVED08 : 48 65 6C 6C 6F 20 77 6F 72 6C 64 21".toList := by
  decide +kernel

theorem test_decodeReserved09 :
    decodeInput Config.defaultParams (.frame (helloFrame 0x09#8 0x82#8 0xA0#8)) =
      .ok (.reserved09 (hello 0x09#8)) := by
  decide +kernel
theorem test_lineReserved09 :
    lastLine (exec (.reserved09 (hello 0x09#8)) unsynced) =
      "[01] 03->02 (09)       :   RESERVED09 : 48 65 6C 6C 6F 20 77 6F 72 6C 64 21".toList := by
  decide +kernel

theorem test_decodeReserved0A :
    decodeInput Config.defaultParams (.frame (helloFrame 0x0A#8 0x4D#8 0x77#8)) =
      .ok (.reserved0A (hello 0x0A#8)) := by
  decide +kernel
theorem test_lineReserved0A :
    lastLine (exec (.reserved0A (hello 0x0A#8)) unsynced) =
      "[01] 03->02 (0A)       :   RESERVED0A : 48 65 6C 6C 6F 20 77 6F 72 6C 64 21".toList := by
  decide +kernel

theorem test_decodeReserved0B :
    decodeInput Config.defaultParams (.frame (helloFrame 0x0B#8 0xF8#8 0x25#8)) =
      .ok (.reserved0B (hello 0x0B#8)) := by
  decide +kernel
theorem test_lineReserved0B :
    lastLine (exec (.reserved0B (hello 0x0B#8)) unsynced) =
      "[01] 03->02 (0B)       :   RESERVED0B : 48 65 6C 6C 6F 20 77 6F 72 6C 64 21".toList := by
  decide +kernel

theorem test_decodeReserved0C :
    decodeInput Config.defaultParams (.frame (helloFrame 0x0C#8 0xC2#8 0xF8#8)) =
      .ok (.reserved0C (hello 0x0C#8)) := by
  decide +kernel
theorem test_lineReserved0C :
    lastLine (exec (.reserved0C (hello 0x0C#8)) unsynced) =
      "[01] 03->02 (0C)       :   RESERVED0C : 48 65 6C 6C 6F 20 77 6F 72 6C 64 21".toList := by
  decide +kernel

theorem test_decodeReserved0D :
    decodeInput Config.defaultParams (.frame (helloFrame 0x0D#8 0x77#8 0xAA#8)) =
      .ok (.reserved0D (hello 0x0D#8)) := by
  decide +kernel
theorem test_lineReserved0D :
    lastLine (exec (.reserved0D (hello 0x0D#8)) unsynced) =
      "[01] 03->02 (0D)       :   RESERVED0D : 48 65 6C 6C 6F 20 77 6F 72 6C 64 21".toList := by
  decide +kernel

theorem test_decodeReserved0E :
    decodeInput Config.defaultParams (.frame (helloFrame 0x0E#8 0xB8#8 0x7D#8)) =
      .ok (.reserved0E (hello 0x0E#8)) := by
  decide +kernel
theorem test_lineReserved0E :
    lastLine (exec (.reserved0E (hello 0x0E#8)) unsynced) =
      "[01] 03->02 (0E)       :   RESERVED0E : 48 65 6C 6C 6F 20 77 6F 72 6C 64 21".toList := by
  decide +kernel

theorem test_decodeReserved0F :
    decodeInput Config.defaultParams (.frame (helloFrame 0x0F#8 0x0D#8 0x2F#8)) =
      .ok (.reserved0F (hello 0x0F#8)) := by
  decide +kernel
theorem test_lineReserved0F :
    lastLine (exec (.reserved0F (hello 0x0F#8)) unsynced) =
      "[01] 03->02 (0F)       :   RESERVED0F : 48 65 6C 6C 6F 20 77 6F 72 6C 64 21".toList := by
  decide +kernel

theorem test_decodeRawData :
    decodeInput Config.defaultParams (.frame (helloFrame 0x10#8 0x29#8 0x8C#8)) =
      .ok (.rawData (hello 0x10#8)) := by
  decide +kernel
theorem test_lineRawData :
    lastLine (exec (.rawData (hello 0x10#8)) unsynced) =
      "[01] 03->02 (10)       :     RAW_DATA : 48 65 6C 6C 6F 20 77 6F 72 6C 64 21".toList := by
  decide +kernel

theorem test_decodeTinyhan :
    decodeInput Config.defaultParams (.frame (helloFrame 0x11#8 0x9C#8 0xDE#8)) =
      .ok (.tinyhan (hello 0x11#8)) := by
  decide +kernel
theorem test_lineTinyhan :
    lastLine (exec (.tinyhan (hello 0x11#8)) unsynced) =
      "[01] 03->02 (11)       :      TINYHAN : 48 65 6C 6C 6F 20 77 6F 72 6C 64 21".toList := by
  decide +kernel

theorem test_decodeMqttSn :
    decodeInput Config.defaultParams (.frame (helloFrame 0x12#8 0x53#8 0x09#8)) =
      .ok (.mqttSn (hello 0x12#8)) := by
  decide +kernel
theorem test_lineMqttSn :
    lastLine (exec (.mqttSn (hello 0x12#8)) unsynced) =
      "[01] 03->02 (12)       :      MQTT-SN : 48 65 6C 6C 6F 20 77 6F 72 6C 64 21".toList := by
  decide +kernel

theorem test_decodeSixLowpan :
    decodeInput Config.defaultParams (.frame (helloFrame 0x13#8 0xE6#8 0x5B#8)) =
      .ok (.sixLowpan (hello 0x13#8)) := by
  decide +kernel
theorem test_lineSixLowpan :
    lastLine (exec (.sixLowpan (hello 0x13#8)) unsynced) =
      "[01] 03->02 (13)       :      6LOWPAN : 48 65 6C 6C 6F 20 77 6F 72 6C 64 21".toList := by
  decide +kernel

theorem test_decodeReserved14 :
    decodeInput Config.defaultParams (.frame (helloFrame 0x14#8 0xDC#8 0x86#8)) =
      .ok (.reserved14 (hello 0x14#8)) := by
  decide +kernel
theorem test_lineReserved14 :
    lastLine (exec (.reserved14 (hello 0x14#8)) unsynced) =
      "[01] 03->02 (14)       :   RESERVED14 : 48 65 6C 6C 6F 20 77 6F 72 6C 64 21".toList := by
  decide +kernel

theorem test_decodeReserved15 :
    decodeInput Config.defaultParams (.frame (helloFrame 0x15#8 0x69#8 0xD4#8)) =
      .ok (.reserved15 (hello 0x15#8)) := by
  decide +kernel
theorem test_lineReserved15 :
    lastLine (exec (.reserved15 (hello 0x15#8)) unsynced) =
      "[01] 03->02 (15)       :   RESERVED15 : 48 65 6C 6C 6F 20 77 6F 72 6C 64 21".toList := by
  decide +kernel

theorem test_decodeReserved16 :
    decodeInput Config.defaultParams (.frame (helloFrame 0x16#8 0xA6#8 0x03#8)) =
      .ok (.reserved16 (hello 0x16#8)) := by
  decide +kernel
theorem test_lineReserved16 :
    lastLine (exec (.reserved16 (hello 0x16#8)) unsynced) =
      "[01] 03->02 (16)       :   RESERVED16 : 48 65 6C 6C 6F 20 77 6F 72 6C 64 21".toList := by
  decide +kernel

theorem test_decodeReserved17 :
    decodeInput Config.defaultParams (.frame (helloFrame 0x17#8 0x13#8 0x51#8)) =
      .ok (.reserved17 (hello 0x17#8)) := by
  decide +kernel
theorem test_lineReserved17 :
    lastLine (exec (.reserved17 (hello 0x17#8)) unsynced) =
      "[01] 03->02 (17)       :   RESERVED17 : 48 65 6C 6C 6F 20 77 6F 72 6C 64 21".toList := by
  decide +kernel

theorem test_decodeReserved18 :
    decodeInput Config.defaultParams (.frame (helloFrame 0x18#8 0xD3#8 0xB9#8)) =
      .ok (.reserved18 (hello 0x18#8)) := by
  decide +kernel
theorem test_lineReserved18 :
    lastLine (exec (.reserved18 (hello 0x18#8)) unsynced) =
      "[01] 03->02 (18)       :   RESERVED18 : 48 65 6C 6C 6F 20 77 6F 72 6C 64 21".toList := by
  decide +kernel

theorem test_decodeReserved19 :
    decodeInput Config.defaultParams (.frame (helloFrame 0x19#8 0x66#8 0xEB#8)) =
      .ok (.reserved19 (hello 0x19#8)) := by
  decide +kernel
theorem test_lineReserved19 :
    lastLine (exec (.reserved19 (hello 0x19#8)) unsynced) =
      "[01] 03->02 (19)       :   RESERVED19 : 48 65 6C 6C 6F 20 77 6F 72 6C 64 21".toList := by
  decide +kernel

theorem test_decodeReserved1A :
    decodeInput Config.defaultParams (.frame (helloFrame 0x1A#8 0xA9#8 0x3C#8)) =
      .ok (.reserved1A (hello 0x1A#8)) := by
  decide +kernel
theorem test_lineReserved1A :
    lastLine (exec (.reserved1A (hello 0x1A#8)) unsynced) =
      "[01] 03->02 (1A)       :   RESERVED1A : 48 65 6C 6C 6F 20 77 6F 72 6C 64 21".toList := by
  decide +kernel

theorem test_decodeReserved1B :
    decodeInput Config.defaultParams (.frame (helloFrame 0x1B#8 0x1C#8 0x6E#8)) =
      .ok (.reserved1B (hello 0x1B#8)) := by
  decide +kernel
theorem test_lineReserved1B :
    lastLine (exec (.reserved1B (hello 0x1B#8)) unsynced) =
      "[01] 03->02 (1B)       :   RESERVED1B : 48 65 6C 6C 6F 20 77 6F 72 6C 64 21".toList := by
  decide +kernel

theorem test_decodeReserved1C :
    decodeInput Config.defaultParams (.frame (helloFrame 0x1C#8 0x26#8 0xB3#8)) =
      .ok (.reserved1C (hello 0x1C#8)) := by
  decide +kernel
theorem test_lineReserved1C :
    lastLine (exec (.reserved1C (hello 0x1C#8)) unsynced) =
      "[01] 03->02 (1C)       :   RESERVED1C : 48 65 6C 6C 6F 20 77 6F 72 6C 64 21".toList := by
  decide +kernel

theorem test_decodeReserved1D :
    decodeInput Config.defaultParams (.frame (helloFrame 0x1D#8 0x93#8 0xE1#8)) =
      .ok (.reserved1D (hello 0x1D#8)) := by
  decide +kernel
theorem test_lineReserved1D :
    lastLine (exec (.reserved1D (hello 0x1D#8)) unsynced) =
      "[01] 03->02 (1D)       :   RESERVED1D : 48 65 6C 6C 6F 20 77 6F 72 6C 64 21".toList := by
  decide +kernel

theorem test_decodeSyslog :
    decodeInput Config.defaultParams (.frame (helloFrame 0x1E#8 0x5C#8 0x36#8)) =
      .ok (.syslog (hello 0x1E#8)) := by
  decide +kernel
theorem test_lineSyslog :
    lastLine (exec (.syslog (hello 0x1E#8)) unsynced) =
      "[01] 03->02 (1E)       :       SYSLOG : ello world!".toList := by
  decide +kernel

theorem test_decodeExtended :
    decodeInput Config.defaultParams (.frame (helloFrame 0x1F#8 0xE9#8 0x64#8)) =
      .ok (.extended (hello 0x1F#8)) := by
  decide +kernel
theorem test_lineExtended :
    lastLine (exec (.extended (hello 0x1F#8)) unsynced) =
      "[01] 03->02 (1F)       :     EXTENDED : 48 65 6C 6C 6F 20 77 6F 72 6C 64 21".toList := by
  decide +kernel

/-! ### The checks, the parameters, the CRC -/

/-- V23: the floor of 9 bytes is tested before the CRC. -/
theorem test_frameTooShort :
    decodeFrame Config.defaultParams
      [0x05#8, 0x03#8, 0x00#8, 0x01#8, 0x02#8, 0x03#8, 0xCC#8, 0xE2#8] =
      .error (.frameTooShort 8) := by decide +kernel
/-- V25: the CRC is tested before the length byte. -/
theorem test_crcError :
    decodeFrame Config.defaultParams
      [0xFF#8, 0x03#8, 0x00#8, 0x01#8, 0x02#8, 0x03#8, 0x2C#8, 0x12#8, 0x34#8] =
      .error (.crcError 0xC3F8#16 0x1234#16) := by decide +kernel
/-- V26. -/
theorem test_payloadTooShort :
    lastLine (step (withInput unsynced [.frame
      [0xFF#8, 0x03#8, 0x00#8, 0x01#8, 0x02#8, 0x03#8, 0x2C#8, 0xC3#8, 0xF8#8]])) =
      "PayloadTooShort: length byte FF needs 258 bytes, frame has 9".toList := by
  decide +kernel
/-- V5, with both byte orders `BE`. -/
theorem test_bigEndianOrders :
    lastLine (step { withInput unsynced [.frame bigEndianFrame] with params := bigEndian }) =
      ("[00] 02->03 (01)       :      REG_REQ : " ++
        "UUID=1122334455667788 HEARTBEAT=32 secs").toList := by
  decide +kernel
/-- V36: under `STRICT_PAYLOAD_LEN` a surplus falls back, without it it is ignored. -/
theorem test_strictLength :
    (payloadFails { Config.defaultParams with strictPayloadLen := true } 9 (helloPayload.take 11) =
      true) ∧ payloadFails Config.defaultParams 9 (helloPayload.take 11) = false := by
  decide
/-- V18, and the published check value of rule R150. -/
theorem test_crcCheckValue :
    crc16 [0x31#8, 0x32#8, 0x33#8, 0x34#8, 0x35#8, 0x36#8, 0x37#8, 0x38#8, 0x39#8] = 0x31C3#16 := by
  decide +kernel
/-- V12: the end of the shortest frame. -/
theorem test_shortestFrameEnds :
    lastLine (exec (.bit 0#6 true) beforeLastByte) =
      "FrameTooShort: 3 bytes, need at least 9".toList := by
  decide +kernel
/-- V11: the length latch does not wrap at 255. -/
theorem test_lengthLatchDoesNotWrap :
    (nextOf (exec (.bit 0#6 true) (beforeFirstByte 0x7F#8))).map (·.declaredLength) =
      some 258#32 := by
  decide

/-! ### The host's two names for a table word -/

theorem test_tableWord : decodeTableWord 8 0x07 = some (.reserved07
    { hello 0x00#8 with length := 0#8, net := 0#8, dest := 0#8, src := 0#8, payload := [] }) := by
  decide +kernel
theorem test_fetchWord :
    lastLine (step (State.reset.withFetchWord 8 0x83)) =
      "[00] 00->00 (00)    DP :          ACK : ".toList := by
  decide +kernel

/-! ### Witnesses: the hypotheses of each statement can be met together -/

theorem test_witnessDecodeOfEncode :
    (Instr.bit 0x3F#6 true).wellFormed = true ∧ (Instr.syslog (hello 0x1E#8)).wellFormed = true := by
  decide
theorem test_witnessEncodeOfDecode :
    decodeInput Config.defaultParams (.frame ackFrame) =
      .ok (.ack { hello 0x2C#8 with length := 0x06#8, payload := [] }) := by
  decide +kernel
theorem test_witnessStepRuns :
    (withInput unsynced [.frame ackFrame, .reset none]).input = .frame ackFrame :: [.reset none] ∧
    decodeInput (withInput unsynced [.frame ackFrame, .reset none]).params (.frame ackFrame) =
      .ok (.ack { hello 0x2C#8 with length := 0x06#8, payload := [] }) := by
  decide +kernel
theorem test_witnessDecodeError :
    (withInput unsynced [.frame []]).input = .frame [] :: [] ∧
    decodeInput (withInput unsynced [.frame []]).params (.frame []) =
      .error (.frameTooShort 0) := by
  decide
theorem test_witnessWaiting : unsynced.input = [] := rfl
theorem test_witnessSyncPulse : (0xFE#8).getLsbD 1 = true ∧ beforeByte.closed = false := by decide

/-- Each clause of `BitSymbolEffect`: UNSYNCED; a bit that fills no byte, at both ends of its range; the
first byte at both ends of its range; a byte in mid-frame; the last byte of a frame. -/
theorem test_witnessBitSymbol :
    (0xFD#8).getLsbD 1 = false ∧ (unsynced.closed = false ∧ unsynced.synced = false) ∧
    ((beforeByte.closed = false ∧ beforeByte.synced = true) ∧ beforeByte.bitCount = 7#3) ∧
    ({ beforeByte with bitCount := 0#3 }.bitCount ≠ 7#3) ∧
    ({ beforeByte with bitCount := 6#3 }.bitCount ≠ 7#3) ∧
    (nextOf (exec (.bit 0#6 false) (beforeFirstByte 0x00#8))).map (·.declaredLength) = some 3#32 ∧
    (nextOf (exec (.bit 0#6 true) beforeByte)).map (·.synced) = some true ∧
    (nextOf (exec (.bit 0#6 true) beforeLastByte)).map (·.frames) =
      some [[0x00#8, 0xAB#8, 0xCD#8]] := by
  decide +kernel

/-- Each clause of `OnlyStoreIsTheAppend`. -/
theorem test_witnessOnlyStore :
    (nextOf (exec .eos beforeByte)).map (·.buffer) = some [0x00#8] ∧
    (nextOf (exec (.sync 0#6 true) beforeByte)).map (·.buffer) = some [] ∧
    (nextOf (exec (.bit 0#6 true) beforeByte)).map (·.buffer) = some [0x00#8, 0xAB#8] := by
  decide
theorem test_witnessEndOfStream :
    closedMidFrame.closed = true ∧
    (exec (.bit 0#6 true) closedMidFrame = .next closedMidFrame) ∧
    (exec .reset closedMidFrame = .next unsynced) ∧ unsynced.closed = false :=
  ⟨rfl, rfl, rfl, rfl⟩
theorem test_witnessResetBeats :
    (withInput closedMidFrame [.reset (some (.symbol 0x03#8))]).input =
      .reset (some (.symbol 0x03#8)) :: [] := rfl

/-- Each clause of `OnlyAPulseRaisesSynced`. -/
theorem test_witnessOnlyAPulse :
    (nextOf (step (withInput unsynced [.stream (.symbol 0x03#8)]))).map (·.synced) = some true ∧
    (nextOf (step (withInput beforeLastByte [.stream (.symbol 0x01#8)]))).map (·.synced) =
      some false ∧
    (nextOf (step (withInput beforeByte [.reset none]))).map (·.synced) = some false := by
  decide +kernel

/-- The frame of V12, offered in mid-frame. -/
theorem test_witnessFrameCompletes :
    beforeByte.closed = false ∧ [0x00#8, 0x00#8, 0x00#8] ≠ [] ∧
    [0x00#8, 0x00#8, 0x00#8].length = (byteAt [0x00#8, 0x00#8, 0x00#8] 0).toNat + 3 ∧
    carries (0x02#8 :: List.replicate 23 0xFC#8) [0x00#8, 0x00#8, 0x00#8] := by
  decide +kernel
theorem test_witnessFramesRoundTrip :
    (Instr.beacon (hello 0x00#8)).frame? = some (.beacon, hello 0x00#8) ∧
    (hello 0x00#8).length.toNat = (hello 0x00#8).payload.length + 6 ∧ unsynced.closed = false := by
  decide
theorem test_witnessSyncPulseForgets :
    unsynced.closed = false ∧ beforeByte.closed = false ∧ unsynced.params = beforeByte.params ∧
    unsynced.frames = beforeByte.frames ∧ unsynced.reports = beforeByte.reports ∧
    (0x02#8).getLsbD 1 = true ∧ (List.replicate 7 0x01#8).length = 7 := by
  decide
theorem test_witnessIdleRegisters :
    unsynced.synced = false ∧ { unsynced with sr := 0xFF#8, byteCount := 9#32 }.synced = false ∧
    unsynced.closed = { unsynced with sr := 0xFF#8, byteCount := 9#32 }.closed ∧
    unsynced.params = { unsynced with sr := 0xFF#8, byteCount := 9#32 }.params ∧
    unsynced.input = { unsynced with sr := 0xFF#8, byteCount := 9#32 }.input ∧
    unsynced.frames = { unsynced with sr := 0xFF#8, byteCount := 9#32 }.frames ∧
    unsynced.reports = { unsynced with sr := 0xFF#8, byteCount := 9#32 }.reports := by
  decide
/-- `closed` before and after the `EOS` of the next test's input is taken. -/
theorem test_closedOnlyByEos :
    (nextOf (run 1 (withInput unsynced [.stream (.symbol 0xFD#8), .stream .eos]))).map (·.closed) =
      some false ∧
    (nextOf (run 2 (withInput unsynced [.stream (.symbol 0xFD#8), .stream .eos]))).map (·.closed) =
      some true := by
  decide
theorem test_witnessNoSyncPulse :
    (withInput unsynced [.stream (.symbol 0xFD#8), .stream .eos]).synced = false ∧
    ∀ x ∈ (withInput unsynced [.stream (.symbol 0xFD#8), .stream .eos]).input,
      ∃ item, x = .stream item ∧ ∀ y, item = .symbol y → y.getLsbD 1 = false := by
  simp [withInput, unsynced, State.reset]
theorem test_witnessAfterEndOfStream :
    (withInput closedMidFrame [.stream (.symbol 0x03#8), .stream .eos]).closed = true ∧
    ∀ x ∈ (withInput closedMidFrame [.stream (.symbol 0x03#8), .stream .eos]).input,
      ∃ item, x = .stream item := by
  simp [withInput, closedMidFrame]

/-- The clauses of the invariant at their ends: UNSYNCED, the pulse's bit counted, the last byte missing. -/
theorem test_witnessInvariant :
    (withInput unsynced [.stream (.symbol 0x03#8)]).Inv ∧ (beforeFirstByte 0xFF#8).Inv ∧
    (withInput beforeLastByte [.stream (.symbol 0x01#8)]).Inv ∧ closedMidFrame.Inv ∧
    (∀ F ∈ (withInput beforeLastByte []).frames, wellDelimited F) ∧
    (nextOf (step (withInput beforeLastByte [.stream (.symbol 0x01#8)]))).map (·.reports.length) =
      some 1 :=
  ⟨by decide, by decide, by decide, by decide, by decide, by decide +kernel⟩

/-- Each clause of `OneReportForEveryFrame`, and of the two statements about a frame handed over. -/
theorem test_witnessOneReport :
    (nextOf (step (withInput unsynced [.stream .eos]))).map (·.reports.length) = some 0 ∧
    (nextOf (step (withInput beforeLastByte [.stream (.symbol 0x01#8)]))).map
      (fun t => (t.frames.length, t.reports.length)) = some (1, 1) ∧
    (nextOf (step (withInput beforeByte [.frame ackFrame]))).map
      (fun t => (t.frames.length, t.reports.length)) = some (0, 1) := by
  decide +kernel
theorem test_witnessParameters :
    (nextOf (run 1 (withInput unsynced [.stream .eos]))).map (·.params) =
      some Config.defaultParams := by
  decide
theorem test_witnessHandedOver :
    decodeFrame unsynced.params ackFrame =
      .ok (.ack { hello 0x2C#8 with length := 0x06#8, payload := [] }) := by
  decide +kernel
theorem test_witnessSingleBitFlip :
    9 ≤ ackFrame.length ∧
    crc16 (ackFrame.take (ackFrame.length - 2)) = be16 ackFrame (ackFrame.length - 2) ∧
    8 < ackFrame.length ∧
    ackFrame.set 8 (byteAt ackFrame 8 ^^^ (1#8 <<< 7)) =
      [0x06#8, 0x03#8, 0x00#8, 0x01#8, 0x02#8, 0x03#8, 0x2C#8, 0xC7#8, 0x2C#8] := by
  decide +kernel

/-- A burst of 16 wrong bits at the very end of V24's frame. -/
theorem test_witnessBurst :
    2 ≤ ackFrame.length ∧ (ackFrame.take 7 ++ [0x38#8, 0x53#8]).length = ackFrame.length ∧
    ackFrame.take 7 ++ [0x38#8, 0x53#8] ≠ ackFrame ∧
    (∀ j, (j < 56 ∨ 56 + 16 ≤ j) →
      (dataBits (ackFrame.take 7 ++ [0x38#8, 0x53#8]))[j]? = (dataBits ackFrame)[j]?) ∧
    crc16 (ackFrame.take (ackFrame.length - 2)) = be16 ackFrame (ackFrame.length - 2) := by
  refine ⟨by decide, by decide, by decide, fun j hj => ?_, by decide +kernel⟩
  rcases hj with hj | hj
  · revert hj
    revert j
    decide +kernel
  · rw [List.getElem?_eq_none hj, List.getElem?_eq_none hj]

/-- The lengths where the clauses of the first check meet. -/
theorem test_witnessFloor : (ackFrame.take 8).length < 9 ∧ 9 ≤ ackFrame.length := by decide

/-- An accepted frame under each flags order, V24 and V5. -/
theorem test_witnessAcceptedFields :
    (9 ≤ ackFrame.length ∧
      (crc16 (ackFrame.take 7)).toNat =
        (byteAt ackFrame 7).toNat * 256 + (byteAt ackFrame 8).toNat ∧
      (byteAt ackFrame 0).toNat + 3 ≤ ackFrame.length) ∧
    (9 ≤ bigEndianFrame.length ∧
      (crc16 (bigEndianFrame.take 17)).toNat =
        (byteAt bigEndianFrame 17).toNat * 256 + (byteAt bigEndianFrame 18).toNat ∧
      (byteAt bigEndianFrame 0).toNat + 3 ≤ bigEndianFrame.length) := by
  decide +kernel

/-- The payload lengths where the two clauses of a typed payload meet, for its layout of 12 bytes. -/
theorem test_witnessLayout :
    failsLayout Config.defaultParams 12 (helloPayload.take 11) ∧
    ¬ failsLayout Config.defaultParams 12 helloPayload ∧
    ¬ failsLayout Config.defaultParams 12 (helloPayload ++ [0x99#8]) ∧
    failsLayout { Config.defaultParams with strictPayloadLen := true } 12
      (helloPayload ++ [0x99#8]) := by
  decide
theorem test_witnessHexDump :
    helloPayload[11]? = some 0x21#8 ∧ 10 + 1 < helloPayload.length := by decide

/-- Members of the four lists of frame types, the last of each. -/
theorem test_witnessTypeLists :
    (Instr.ack, 3, "ACK") ∈
      [(Instr.beaconReq, 1, "BEACON_REQ"), (Instr.poll, 2, "POLL"), (Instr.ack, 3, "ACK")] ∧
    (Instr.extended, 31, "EXTENDED") ∈
      [(Instr.sixLowpan, 19, "6LOWPAN"), (Instr.extended, 31, "EXTENDED")] := by
  simp
/-- The digits of a UUID of V2 and of a CRC of rule R151, and a position of each. -/
theorem test_witnessHexDigits :
    hex16 0x1122334455667788#64 = "1122334455667788".toList ∧ hex4 0x1EF0#16 = "1EF0".toList ∧
    (15 : Nat) < 16 ∧ (0 : Nat) < 4 := by
  decide +kernel
theorem test_witnessTypeNumbers :
    FrameType.beacon.bits.toNat = 0 ∧ FrameType.extended.bits.toNat = 31 ∧
    Instr.ofFrame .poll (hello 0x02#8) = .poll (hello 0x02#8) := by
  decide
theorem test_witnessDecimal :
    '7' ∈ decimal 27762 ∧ decimal 0 = ['0'] ∧ decimal 10 = ['1', '0'] := by decide +kernel
theorem test_witnessShortCrc :
    2 ≤ ([0x00#8, 0x00#8] : List Byte).length ∧ crc16 [0x00#8, 0x00#8] = 0x0000#16 := by
  decide +kernel

end Sys2Proof.Tests
end

section
/-!
The symbol's encoding (rule R80): what a symbol byte decodes to, and that the instructions it selects do
not read the ignored bits.
-/

namespace Sys2Proof.Machine

/-- A symbol always decodes, whatever the parameters (rule R80). -/
theorem decodeInput_symbol (p : Params) (y : Byte) :
    decodeInput p (.stream (.symbol y)) = .ok (decodeSymbol y) := rfl

/-- `BIT` offers its data bit without a sync pulse (rule R126); the ignored bits do not occur on the
right. -/
theorem exec_bit (ig : BitVec 6) (d : Bool) (s : State) :
    exec (.bit ig d) s = .next (offerSymbol false d s) := rfl

/-- `SYNC` offers its data bit with a sync pulse (rule R127); the ignored bits do not occur on the
right. -/
theorem exec_sync (ig : BitVec 6) (d : Bool) (s : State) :
    exec (.sync ig d) s = .next (offerSymbol true d s) := rfl

/-- Settles O3: the fields of the symbol are the bits rule R80 names, and neither instruction's effect
mentions the ignored ones. -/
theorem symbolBitsSelectTheOperation : Obligations.SymbolBitsSelectTheOperation := by
  refine ⟨fun p y => ?decode, fun ig ig' d s => ⟨?bit, ?sync⟩⟩
  case decode => rw [decodeInput_symbol, decodeSymbol_eq, symSync, symIgnored, symData]
  case bit => rw [exec_bit ig, exec_bit ig']
  case sync => rw [exec_sync ig, exec_sync ig']

end Sys2Proof.Machine
end

section
/-!
The synchronizer's symbols (rules R120, R127, R133, R136): a symbol enters a step by its low two bits
only, a sync pulse starts a frame from any open block, and seven symbols after the pulse the block
holds nothing older than the pulse.
-/

namespace Sys2Proof.Machine

/-! ### One symbol -/

/-- The step that takes a symbol offers its two flags to the block (rules R80, R120). -/
theorem step_symbol {s : State} {y : Byte} {rest : List Input}
    (h : s.input = .stream (.symbol y) :: rest) :
    step s = .next (offerSymbol (symSync y) (symData y) (s.setInput rest)) := by
  rcases step_cases s with ⟨e, _⟩ | ⟨y', rest', e, hstep⟩ | ⟨_, e, _⟩ | ⟨_, _, e, _⟩ | ⟨_, _, e, _⟩ <;>
    rw [h] at e
  case inr.inl => cases e; exact hstep
  all_goals cases e

/-- An open block takes the symbol it is offered (rule R120). -/
theorem offerSymbol_of_open {s : State} (h : s.closed = false) (sync d : Bool) :
    offerSymbol sync d s = takeSymbol sync d s := by
  simp [offerSymbol, h]

/-- A sync pulse shifts, clears the frame under assembly and counts its own bit (rule R127). -/
theorem takeSymbol_sync (d : Bool) (s : State) :
    takeSymbol true d s = (s.shift d).syncReset.countBit := by
  simp only [takeSymbol, syncStep_sync]

/-- What a symbol does is decided by the block after sub-step 1: the bit that leaves `sr` is not
read (rules R121 to R123). -/
theorem takeSymbol_congr {s s' : State} {d : Bool} (h : s.shift d = s'.shift d) (sync : Bool) :
    takeSymbol sync d s = takeSymbol sync d s' := by
  simp only [takeSymbol, State.syncStep, h]

/-- The sync flag is bit 1, which the mask keeps. -/
theorem symSync_and_three (y : Byte) : symSync (y &&& 0x03#8) = symSync y := by
  simp [symSync]

/-- The data bit is bit 0, which the mask keeps. -/
theorem symData_and_three (y : Byte) : symData (y &&& 0x03#8) = symData y := by
  simp [symData]

/-- Settles O4: the step sees the two flags of the symbol, and the mask keeps both. -/
theorem ignoredSymbolBitsNeverMatter : Obligations.IgnoredSymbolBitsNeverMatter := by
  intro s y rest
  have hy := step_symbol (s := { s with input := .stream (.symbol y) :: rest }) rfl
  have hmasked :=
    step_symbol (s := { s with input := .stream (.symbol (y &&& 0x03#8)) :: rest }) rfl
  rw [symSync_and_three, symData_and_three] at hmasked
  exact hy.trans hmasked.symm

/-- Settles O10: the pulse's sub-steps, with its own bit counted after the clearing (rule R127). -/
theorem syncPulseEffect : Obligations.SyncPulseEffect := by
  refine ⟨fun p y hsync => ?decode, fun ig d s hopen => ?effect⟩
  case decode =>
    rw [decodeInput_symbol, decodeSymbol_eq, symSync, if_pos hsync, symIgnored, symData]
  case effect =>
    rw [exec_sync, offerSymbol_of_open hopen, takeSymbol_sync, ← shift_sr_eq]
    rfl

/-! ### What a block keeps of the bits before a sync pulse -/

/-- The block with the `m` oldest bits of `sr` shifted out. Two blocks with the same value of this
differ at most in those `m` bits. -/
def State.dropOldest (m : Nat) (s : State) : State := { s with sr := s.sr <<< m }

@[simp] theorem State.dropOldest_zero (s : State) : s.dropOldest 0 = s := by
  simp [State.dropOldest]

@[simp] theorem State.dropOldest_synced (m : Nat) (s : State) :
    (s.dropOldest m).synced = s.synced := rfl
@[simp] theorem State.dropOldest_bitCount (m : Nat) (s : State) :
    (s.dropOldest m).bitCount = s.bitCount := rfl
@[simp] theorem State.dropOldest_closed (m : Nat) (s : State) :
    (s.dropOldest m).closed = s.closed := rfl
@[simp] theorem State.dropOldest_input (m : Nat) (s : State) :
    (s.dropOldest m).input = s.input := rfl

/-- Sub-step 1 shifts one of the older bits out (rule R121). -/
theorem State.dropOldest_shift (m : Nat) (d : Bool) (s : State) :
    (s.shift d).dropOldest m =
      { s.dropOldest (m + 1) with
        sr := (s.dropOldest (m + 1)).sr ||| (BitVec.ofBool d).setWidth 8 <<< m } := by
  simp only [State.dropOldest, State.shift, BitVec.shiftLeft_or_distrib, ← BitVec.shiftLeft_add,
    Nat.add_comm m 1]

/-- Blocks that differ at most in their `m + 1` oldest bits differ at most in `m` after a shift. -/
theorem State.dropOldest_shift_congr {m : Nat} {s s' : State}
    (h : s.dropOldest (m + 1) = s'.dropOldest (m + 1)) (d : Bool) :
    (s.shift d).dropOldest m = (s'.shift d).dropOldest m := by
  rw [dropOldest_shift, dropOldest_shift, h]

/-- Counting a bit does not look at `sr`. -/
theorem State.dropOldest_countBit (m : Nat) (s : State) :
    s.countBit.dropOldest m = (s.dropOldest m).countBit := rfl

/-- A sync reset does not look at `sr`. -/
theorem State.dropOldest_syncReset (m : Nat) (s : State) :
    s.syncReset.dropOldest m = (s.dropOldest m).syncReset := rfl

/-- Two blocks that `m` more symbols make equal: they differ at most in the `m` oldest bits of `sr`;
and, unless they are equal already, both are open and assemble a byte that is not full before the
`m`-th symbol, so that none of those bits is appended to the buffer. -/
def ConvergeIn (m : Nat) (s s' : State) : Prop :=
  s.dropOldest m = s'.dropOldest m ∧
    (m = 0 ∨ s.closed = false ∧ s.synced = true ∧ s.bitCount.toNat + m ≤ 8)

/-- Taking the same input event off both blocks keeps them converging. -/
theorem ConvergeIn.setInput {m : Nat} {s s' : State} (h : ConvergeIn m s s') (rest : List Input) :
    ConvergeIn m (s.setInput rest) (s'.setInput rest) :=
  ⟨congrArg (State.setInput rest) h.1, h.2⟩

/-- Blocks that still have a symbol to go are both open, and have the same input. -/
theorem ConvergeIn.open_input {m : Nat} {s s' : State} (h : ConvergeIn (m + 1) s s') :
    s.closed = false ∧ s'.closed = false ∧ s.input = s'.input := by
  obtain ⟨heq, hzero | ⟨hopen, -, -⟩⟩ := h
  · cases hzero
  · have hclosed : s.closed = s'.closed := by simpa using congrArg State.closed heq
    have hinput : s.input = s'.input := by simpa using congrArg State.input heq
    exact ⟨hopen, hclosed ▸ hopen, hinput⟩

/-- A symbol whose bit does not fill a byte appends nothing: a pulse clears the frame and counts its
bit, any other symbol only counts (rules R122, R123). -/
theorem takeSymbol_of_not_full {s : State} (hsynced : s.synced = true) (hfull : s.bitCount ≠ 7#3)
    (sync d : Bool) :
    takeSymbol sync d s =
      if sync then (s.shift d).syncReset.countBit else (s.shift d).countBit := by
  rcases takeSymbol_cases sync d s with
    ⟨rfl, h⟩ | ⟨-, h, -⟩ | ⟨rfl, -, -, h⟩ | ⟨-, -, h, -⟩ | ⟨-, -, h, -⟩
  · exact h
  · simp [hsynced] at h
  · exact h
  · exact absurd h hfull
  · exact absurd h hfull

/-- One more symbol, a pulse or a bit, brings the blocks one symbol closer. -/
theorem ConvergeIn.takeSymbol {m : Nat} {s s' : State} (h : ConvergeIn (m + 1) s s')
    (sync d : Bool) : ConvergeIn m (takeSymbol sync d s) (takeSymbol sync d s') := by
  obtain ⟨heq, hzero | ⟨hopen, hsynced, hcount⟩⟩ := h
  · cases hzero
  have hshift := State.dropOldest_shift_congr heq d
  cases m with
  | zero =>
    simp only [State.dropOldest_zero] at hshift
    exact ⟨congrArg _ (takeSymbol_congr hshift sync), .inl rfl⟩
  | succ m =>
    have hfull : s.bitCount ≠ 7#3 := by
      intro h7
      simp only [h7, BitVec.toNat_ofNat] at hcount
      omega
    have hsynced' : s.synced = s'.synced := by simpa using congrArg State.synced heq
    have hcount' : s.bitCount = s'.bitCount := by simpa using congrArg State.bitCount heq
    rw [takeSymbol_of_not_full hsynced hfull,
      takeSymbol_of_not_full (hsynced' ▸ hsynced) (hcount' ▸ hfull)]
    cases sync with
    | true =>
      refine ⟨?_, .inr ⟨hopen, rfl, ?_⟩⟩
      · simp [State.dropOldest_countBit, State.dropOldest_syncReset, hshift]
      · change 1 + (m + 1) ≤ 8; omega
    | false =>
      refine ⟨?_, .inr ⟨hopen, hsynced, ?_⟩⟩
      · simp [State.dropOldest_countBit, hshift]
      · change (s.bitCount + 1#3).toNat + (m + 1) ≤ 8
        simp only [BitVec.toNat_add, BitVec.toNat_ofNat]; omega

/-! ### Runs -/

/-- A run of any machine is its first step and the run from there. -/
theorem coreRun_succ_of_step (M : Host.Core) {s t : M.State} (h : M.step s = .next t) (k : Nat) :
    M.run (k + 1) s = M.run k t := by
  simp only [Host.Core.run, h]

/-- A run of the block is its first step and the run from there. -/
theorem run_succ_of_step {s t : State} (h : step s = .next t) (k : Nat) :
    run (k + 1) s = run k t :=
  coreRun_succ_of_step core h k

/-- A run of an open block over symbols takes the first symbol first. -/
theorem run_symbol {s : State} {y : Byte} {ys : List Byte} {rest : List Input}
    (hopen : s.closed = false) (h : s.input = symbolInputs (y :: ys) ++ rest) (k : Nat) :
    run (k + 1) s =
      run k (takeSymbol (symSync y) (symData y) (s.setInput (symbolInputs ys ++ rest))) := by
  rw [run_succ_of_step (step_symbol (rest := symbolInputs ys ++ rest) h),
    offerSymbol_of_open (by simpa using hopen)]

/-- A symbol never touches the input of the events after it. -/
@[simp] theorem takeSymbol_input (sync d : Bool) (s : State) :
    (takeSymbol sync d s).input = s.input := by
  rcases takeSymbol_cases sync d s with
    ⟨-, h⟩ | ⟨-, -, h⟩ | ⟨-, -, -, h⟩ | ⟨-, -, -, -, h⟩ | ⟨-, -, -, -, h⟩ <;> simp [h]

/-- Blocks that need as many symbols as their input holds end in the same state. -/
theorem ConvergeIn.run_symbols {ys : List Byte} {rest : List Input} {s s' : State}
    (h : ConvergeIn ys.length s s') (hinput : s.input = symbolInputs ys ++ rest) :
    ∃ t, run ys.length s = .next t ∧ run ys.length s' = .next t := by
  induction ys generalizing s s' with
  | nil =>
    have heq : s = s' := by simpa using h.1
    exact ⟨s, rfl, heq ▸ rfl⟩
  | cons y ys ih =>
    obtain ⟨hopen, hopen', hsame⟩ := h.open_input
    rw [List.length_cons, run_symbol hopen hinput, run_symbol hopen' (hsame ▸ hinput)]
    exact ih ((h.setInput _).takeSymbol _ _) (by simp)

/-- Whatever the registers of two open blocks hold, a sync pulse leaves only the seven bits of `sr`
older than its own to tell them apart (rules R127, R133). -/
theorem convergeIn_takeSymbol_sync {s s' : State} (hopen : s.closed = false)
    (hopen' : s'.closed = false) (hparams : s.params = s'.params) (hinput : s.input = s'.input)
    (hframes : s.frames = s'.frames) (hreports : s.reports = s'.reports) (d : Bool) :
    ConvergeIn 7 (takeSymbol true d s) (takeSymbol true d s') := by
  have hreset : s.syncReset.dropOldest 8 = s'.syncReset.dropOldest 8 := by
    simp [State.dropOldest, State.syncReset, BitVec.shiftLeft_eq_zero, hopen, hopen', hparams,
      hinput, hframes, hreports]
  have hshift : (s.shift d).syncReset.dropOldest 7 = (s'.shift d).syncReset.dropOldest 7 :=
    State.dropOldest_shift_congr hreset d
  rw [takeSymbol_sync, takeSymbol_sync]
  refine ⟨?_, .inr ⟨hopen, rfl, by simp⟩⟩
  rw [State.dropOldest_countBit, State.dropOldest_countBit, hshift]

/-- Settles O21: the pulse leaves seven older bits of `sr`, and the seven symbols shift them out
before the first byte of the new frame is appended. -/
theorem syncPulseForgetsThePartialFrame : Obligations.SyncPulseForgetsThePartialFrame := by
  intro s s' y ys rest hopen hopen' hparams hframes hreports hsync hlength hinput hinput'
  have hconverge := convergeIn_takeSymbol_sync (s := s.setInput (symbolInputs ys ++ rest))
    (s' := s'.setInput (symbolInputs ys ++ rest)) hopen hopen' hparams rfl hframes hreports
    (symData y)
  have hpulse : symSync y = true := hsync
  rw [run_symbol hopen hinput 7, run_symbol hopen' hinput' 7, hpulse]
  rw [← hlength] at hconverge ⊢
  exact hconverge.run_symbols (rest := rest) (by simp)

end Sys2Proof.Machine
end

section
/-!
The CRC is a remainder (rule R151). The register is read as a polynomial over GF(2), bit `i` the
coefficient of `X ^ i`; one shift is then multiplication by `X` in the ring of residues by the
generator, so one byte multiplies by `X ^ 8` and adds the byte's own term.
-/

namespace Sys2Proof.Machine

open Polynomial

/-- The generator of rule R151. -/
noncomputable def crcGenerator : (ZMod 2)[X] := X ^ 16 + X ^ 12 + X ^ 5 + 1

/-- A bit vector as a polynomial: bit `i` is the coefficient of `X ^ i`. -/
noncomputable def bitVecPoly {w : ℕ} (v : BitVec w) : (ZMod 2)[X] :=
  ∑ i ∈ Finset.range w, if v.getLsbD i then X ^ i else 0

/-- A bit sequence as a polynomial, the first bit at the highest power (rule R151). -/
noncomputable def bitsPoly (bs : List Bool) : (ZMod 2)[X] :=
  ∑ i ∈ Finset.range bs.length, if bs.getD i false then X ^ (bs.length - 1 - i) else 0

/-- The class of a polynomial in the ring of residues by the generator. -/
noncomputable def crcResidue : (ZMod 2)[X] →+* AdjoinRoot crcGenerator :=
  AdjoinRoot.mk crcGenerator

/-! ### The generator and its residues -/

theorem crcGenerator_monic : crcGenerator.Monic := by
  unfold crcGenerator; monicity!

theorem crcGenerator_degree : crcGenerator.degree = 16 := by
  unfold crcGenerator; compute_degree!

theorem crcResidue_generator : crcResidue crcGenerator = 0 :=
  AdjoinRoot.mk_self

/-- A polynomial below the generator is the remainder of everything in its class. -/
theorem modByMonic_crcGenerator_eq {p r : (ZMod 2)[X]} (hclass : crcResidue p = crcResidue r)
    (hdegree : r.degree < 16) : p %ₘ crcGenerator = r := by
  have hdvd : crcGenerator ∣ p - r := AdjoinRoot.mk_eq_mk.mp hclass
  calc p %ₘ crcGenerator
      = r %ₘ crcGenerator := modByMonic_eq_of_dvd_sub crcGenerator_monic hdvd
    _ = r := (modByMonic_eq_self_iff crcGenerator_monic).mpr (crcGenerator_degree ▸ hdegree)

/-! ### The register as a polynomial -/

theorem bitVecPoly_degree_lt {w : ℕ} (v : BitVec w) : (bitVecPoly v).degree < w := by
  refine (degree_sum_le _ _).trans_lt ((Finset.sup_lt_iff (WithBot.bot_lt_coe w)).mpr ?_)
  intro i hi
  split
  · rw [degree_X_pow]
    exact WithBot.coe_lt_coe.mpr (Nat.cast_lt.mpr (Finset.mem_range.mp hi))
  · simp

@[simp] theorem bitVecPoly_zero (w : ℕ) : bitVecPoly (0#w) = 0 := by
  simp [bitVecPoly]

/-- Exclusive-or is addition over GF(2). -/
theorem bitVecPoly_xor {w : ℕ} (a b : BitVec w) :
    bitVecPoly (a ^^^ b) = bitVecPoly a + bitVecPoly b := by
  simp only [bitVecPoly, ← Finset.sum_add_distrib, BitVec.getLsbD_xor]
  refine Finset.sum_congr rfl fun i _ => ?_
  cases a.getLsbD i <;> cases b.getLsbD i <;> simp [CharTwo.add_self_eq_zero]

/-- A left shift by one multiplies by `X`; the bit that leaves the register is its top term. -/
theorem bitVecPoly_shiftLeft_one {w : ℕ} (v : BitVec (w + 1)) :
    X * bitVecPoly v = bitVecPoly (v <<< 1) + if v.getLsbD w then X ^ (w + 1) else 0 := by
  rw [bitVecPoly, bitVecPoly, Finset.sum_range_succ, Finset.sum_range_succ', mul_add, Finset.mul_sum]
  have hlow : ∀ i ∈ Finset.range w, X * (if v.getLsbD i then (X : (ZMod 2)[X]) ^ i else 0) =
      if (v <<< 1).getLsbD (i + 1) then X ^ (i + 1) else 0 := by
    intro i hi
    have hbit : (v <<< 1).getLsbD (i + 1) = v.getLsbD i := by
      simpa using fun _ => Finset.mem_range.mp hi
    rw [hbit, mul_ite, mul_zero, pow_succ']
  have hzero : (v <<< 1).getLsbD 0 = false := by simp
  rw [Finset.sum_congr rfl hlow, hzero, mul_ite, mul_zero, pow_succ']
  simp

theorem bitVecPoly_crcPoly : bitVecPoly Config.crcPoly = X ^ 12 + X ^ 5 + 1 := by
  have hbits : bitVecPoly Config.crcPoly = 1 + X ^ 5 + X ^ 12 := by
    simp [bitVecPoly, Config.crcPoly, Finset.sum_range_succ]
  rw [hbits]
  ring

/-- What `crcShift` excludes is the generator without its top term. -/
theorem crcGenerator_eq : crcGenerator = X ^ 16 + bitVecPoly Config.crcPoly := by
  rw [bitVecPoly_crcPoly, crcGenerator]
  ring

/-- A byte in the high half of the register stands eight powers higher. -/
theorem bitVecPoly_highByte (b : Byte) :
    bitVecPoly (b.setWidth 16 <<< 8) = X ^ 8 * bitVecPoly b := by
  have hlow : ∀ i ∈ Finset.range 8,
      (if (b.setWidth 16 <<< 8).getLsbD i then (X : (ZMod 2)[X]) ^ i else 0) = 0 := by
    intro i hi
    simp [Finset.mem_range.mp hi]
  have hhigh : ∀ i ∈ Finset.range 8,
      (if (b.setWidth 16 <<< 8).getLsbD (8 + i) then (X : (ZMod 2)[X]) ^ (8 + i) else 0) =
        X ^ 8 * if b.getLsbD i then X ^ i else 0 := by
    intro i hi
    have hlt : i < 8 := Finset.mem_range.mp hi
    have hbit : (b.setWidth 16 <<< 8).getLsbD (8 + i) = b.getLsbD i := by
      simp [show 8 + i < 16 by omega]
    rw [hbit, mul_ite, mul_zero, pow_add]
  calc bitVecPoly (b.setWidth 16 <<< 8)
      = ∑ i ∈ Finset.range (8 + 8),
          if (b.setWidth 16 <<< 8).getLsbD i then (X : (ZMod 2)[X]) ^ i else 0 := rfl
    _ = X ^ 8 * bitVecPoly b := by
      rw [Finset.sum_range_add, Finset.sum_eq_zero hlow, Finset.sum_congr rfl hhigh, zero_add,
        ← Finset.mul_sum, bitVecPoly]

/-! ### One shift, one byte -/

/-- One shift multiplies the residue by `X`: the exclusive-or takes the generator away. -/
theorem crcResidue_crcShift (crc : Word16) :
    crcResidue (bitVecPoly (crcShift crc)) = crcResidue X * crcResidue (bitVecPoly crc) := by
  rw [← map_mul, bitVecPoly_shiftLeft_one]
  cases htop : crc.getLsbD 15 with
  | false => rw [crcShift, htop]; simp
  | true =>
    have hpow : (X : (ZMod 2)[X]) ^ 16 = crcGenerator + bitVecPoly Config.crcPoly := by
      rw [crcGenerator_eq, add_assoc, CharTwo.add_self_eq_zero, add_zero]
    rw [crcShift, htop]
    simp [bitVecPoly_xor, hpow, crcResidue_generator]

/-- One byte multiplies the register by `X ^ 8` and adds the byte at `X ^ 16` (rule R151). -/
theorem crcResidue_crcByte (crc : Word16) (b : Byte) :
    crcResidue (bitVecPoly (crcByte crc b)) =
      crcResidue (X ^ 8 * bitVecPoly crc + X ^ 16 * bitVecPoly b) := by
  simp only [crcByte, crcResidue_crcShift, bitVecPoly_xor, bitVecPoly_highByte, map_add, map_mul,
    map_pow]
  ring

/-! ### The message as a polynomial -/

@[simp] theorem bitsPoly_nil : bitsPoly [] = 0 := rfl

theorem bitsPoly_append (as bs : List Bool) :
    bitsPoly (as ++ bs) = bitsPoly as * X ^ bs.length + bitsPoly bs := by
  rw [bitsPoly, List.length_append, Finset.sum_range_add, bitsPoly, bitsPoly, Finset.sum_mul]
  congr 1
  · refine Finset.sum_congr rfl fun i hi => ?_
    have hlt := Finset.mem_range.mp hi
    rw [List.getD_append _ _ _ _ hlt, ite_mul, zero_mul, ← pow_add,
      show as.length + bs.length - 1 - i = as.length - 1 - i + bs.length by omega]
  · refine Finset.sum_congr rfl fun i _ => ?_
    rw [List.getD_append_right _ _ _ _ (Nat.le_add_right _ _), Nat.add_sub_cancel_left,
      show as.length + bs.length - 1 - (as.length + i) = bs.length - 1 - i by omega]

/-- Arrival order is the most significant bit first (rule R51). -/
theorem bitsOf_getD (b : Byte) {i : ℕ} (hi : i < 8) :
    (bitsOf b).getD i false = b.getLsbD (8 - 1 - i) := by
  interval_cases i <;> rfl

/-- The bits of a byte in arrival order are its own polynomial: each power meets its bit. -/
theorem bitsPoly_bitsOf (b : Byte) : bitsPoly (bitsOf b) = bitVecPoly b := by
  rw [bitVecPoly, ← Finset.sum_range_reflect]
  refine Finset.sum_congr rfl fun i hi => ?_
  rw [bitsOf_getD b (Finset.mem_range.mp hi)]
  rfl

theorem bitsPoly_dataBits_append_singleton (M : List Byte) (b : Byte) :
    bitsPoly (dataBits (M ++ [b])) = bitsPoly (dataBits M) * X ^ 8 + bitVecPoly b := by
  have hbits : dataBits (M ++ [b]) = dataBits M ++ bitsOf b := by simp [dataBits]
  rw [hbits, bitsPoly_append, bitsPoly_bitsOf]
  rfl

/-- The CRC is in the class of the message times `X ^ 16`. -/
theorem crcResidue_crc16 (M : List Byte) :
    crcResidue (bitsPoly (dataBits M) * X ^ 16) = crcResidue (bitVecPoly (crc16 M)) := by
  induction M using List.reverseRecOn with
  | nil => simp [dataBits]
  | append_singleton M b ih =>
    calc crcResidue (bitsPoly (dataBits (M ++ [b])) * X ^ 16)
        = crcResidue (X ^ 8 * (bitsPoly (dataBits M) * X ^ 16) + X ^ 16 * bitVecPoly b) := by
          rw [bitsPoly_dataBits_append_singleton]
          exact congrArg crcResidue (by ring)
      _ = crcResidue (X ^ 8 * bitVecPoly (crc16 M) + X ^ 16 * bitVecPoly b) := by
          simp only [map_add, map_mul _ (X ^ 8) _, ih]
      _ = crcResidue (bitVecPoly (crc16 (M ++ [b]))) := by
          rw [crc16_append_singleton, crcResidue_crcByte]

/-- Settles O33: the CRC has degree below 16 and lies in the class of `M(x) * x ^ 16`, so it is the
remainder; the corner cases are runs of the model. -/
theorem crcIsThePolynomialRemainder : Obligations.CrcIsThePolynomialRemainder := by
  refine ⟨fun M => ?remainder, ?nil, ?zero, ?one, ?high, ?ones⟩
  case remainder =>
    exact modByMonic_crcGenerator_eq (crcResidue_crc16 M) (bitVecPoly_degree_lt (crc16 M))
  case nil => exact crc16_nil
  all_goals decide

end Sys2Proof.Machine
end

section
/-!
The line of a decoded record by columns (rules R250 and R252). The line is 16 pieces one after another,
and every piece but the last has a fixed width, so each starts where the widths before it add up to.
-/

namespace Sys2Proof.Machine

/-! ### The widths of the pieces -/

@[simp] theorem hexDigits_length (k n : Nat) : (hexDigits k n).length = k := by
  induction k generalizing n with
  | zero => rfl
  | succ k ih => rw [hexDigits, List.length_append, ih, List.length_singleton]

@[simp] theorem hex2_length (b : Byte) : (hex2 b).length = 2 := hexDigits_length 2 b.toNat

/-- A header flag takes as many columns unset as set (rule R252). -/
theorem flagTag_length (c : Bool) {tag : Line} (h : tag.length = 2) : (flagTag c tag).length = 2 := by
  cases c
  · rfl
  · exact h

theorem padLeft_length {w : Nat} {l : Line} (h : l.length ≤ w) : (padLeft w l).length = w := by
  rw [padLeft, List.length_append, List.length_replicate, Nat.sub_add_cancel h]

/-- No name is wider than its columns, so none pushes the rest of the line to the right (rules R253,
R254). -/
theorem typeName_length_le (t : FrameType) : (typeName t).length ≤ Config.typeNameWidth := by
  cases t <;> decide

/-! ### The line as its pieces -/

/-- The pieces of rule R250's template, in order. -/
def linePieces (d : Decoded) : List Line :=
  ["[".toList, hex2 d.net, "] ".toList, hex2 d.src, "->".toList, hex2 d.dest, " (".toList, hex2 d.seq,
    ") ".toList, flagTag d.ar "AR".toList, " ".toList, flagTag d.dp "DP".toList, " : ".toList,
    padLeft Config.typeNameWidth (typeName d.frameType), " : ".toList, payloadText d.body]

/-- Rule R250's table, less its last row, whose piece ends with the line: the column where each piece
starts and its width. -/
def lineColumns : List (Nat × Nat) :=
  [(0, 1), (1, 2), (3, 2), (5, 2), (7, 2), (9, 2), (11, 2), (13, 2), (15, 2), (17, 2), (19, 1), (20, 2),
    (22, 3), (25, 12), (37, 3)]

/-- The line of a record is that of its template. -/
theorem render_decoded (d : Decoded) : render (.decoded d) = decodedLine d := rfl

theorem render_decoded_eq_flatten (d : Decoded) : render (.decoded d) = (linePieces d).flatten := by
  rw [render_decoded]
  unfold decodedLine
  simp only [linePieces, List.flatten_cons, List.flatten_nil, List.append_nil, List.append_assoc]

/-- The widths of the table are those of the pieces. -/
theorem linePieces_map_length (d : Decoded) :
    (linePieces d).map List.length = lineColumns.map Prod.snd ++ [(payloadText d.body).length] := by
  have har : (flagTag d.ar "AR".toList).length = 2 := flagTag_length d.ar rfl
  have hdp : (flagTag d.dp "DP".toList).length = 2 := flagTag_length d.dp rfl
  have hname : (padLeft Config.typeNameWidth (typeName d.frameType)).length = 12 :=
    padLeft_length (typeName_length_le d.frameType)
  simp only [linePieces, List.map_cons, List.map_nil, hex2_length, har, hdp, hname]
  rfl

/-- The columns of the table are the sums of the widths before them. -/
theorem lineColumns_start :
    ∀ i, (h : i < lineColumns.length) → ((lineColumns.map Prod.snd).take i).sum = lineColumns[i].1 := by
  decide

/-- What is left of the line when the first `i` pieces are cut off. -/
theorem render_decoded_drop (d : Decoded) {i : Nat} (hi : i ≤ lineColumns.length) :
    (render (.decoded d)).drop ((lineColumns.map Prod.snd).take i).sum =
      ((linePieces d).drop i).flatten := by
  have htake : ((linePieces d).map List.length).take i = (lineColumns.map Prod.snd).take i := by
    rw [linePieces_map_length, List.take_append_of_le_length (by simpa using hi)]
  rw [render_decoded_eq_flatten, ← htake, List.drop_sum_flatten]

/-- Piece `i` stands in the columns of row `i` of the table. -/
theorem render_decoded_piece (d : Decoded) (i : Nat) {p : Line} {col width : Nat}
    (hp : (linePieces d)[i]? = some p) (hrow : lineColumns[i]? = some (col, width)) :
    ((render (.decoded d)).drop col).take width = p := by
  obtain ⟨hi, rfl⟩ := List.getElem?_eq_some_iff.mp hp
  obtain ⟨hlt, hrow⟩ := List.getElem?_eq_some_iff.mp hrow
  have hcol : ((lineColumns.map Prod.snd).take i).sum = col := by rw [lineColumns_start i hlt, hrow]
  have hwidth : (linePieces d)[i].length = width := by
    have hsnd : ((linePieces d).map List.length)[i]? = some width := by
      simp [linePieces_map_length, hlt, hrow, List.getElem?_append_left]
    simpa [hi] using hsnd
  rw [← hcol, render_decoded_drop d hlt.le, List.drop_eq_getElem_cons hi, List.flatten_cons,
    List.take_left' hwidth]

/-- The payload's text is what follows the fixed columns, up to the end of the line. -/
theorem render_decoded_drop_forty (d : Decoded) :
    (render (.decoded d)).drop 40 = payloadText d.body := by
  have hsum : ((lineColumns.map Prod.snd).take 15).sum = 40 := by decide
  calc (render (.decoded d)).drop 40
      = [payloadText d.body].flatten := by rw [← hsum, render_decoded_drop d (by decide)]; rfl
    _ = payloadText d.body := List.flatten_singleton

/-- Settles O53: each clause is a row of the table with its piece, and the last is what follows them. -/
theorem linePiecesStandInTheirColumns : Obligations.LinePiecesStandInTheirColumns := by
  intro d
  have row := @render_decoded_piece d
  exact ⟨row 0 rfl rfl, row 1 rfl rfl, row 2 rfl rfl, row 3 rfl rfl, row 4 rfl rfl, row 5 rfl rfl,
    row 6 rfl rfl, row 7 rfl rfl, row 8 rfl rfl, row 9 rfl rfl, row 10 rfl rfl, row 11 rfl rfl,
    row 12 rfl rfl, row 13 rfl rfl, row 14 rfl rfl, render_decoded_drop_forty d⟩

end Sys2Proof.Machine
end

section
/-!
The frame's encoding (rules R53, R60, R84, R85): every byte of an encoded frame is found again at its
offset, every accepted frame is the encoding of its own type and fields, and the three checks of the
decoder each reject exactly what their rule says (rules R172 to R177).
-/

namespace Sys2Proof.Machine

/-! ### Instructions as types with fields -/

/-- An instruction is an input of the synchronizer or a frame type with its fields (rule R86). -/
theorem instr_cases (i : Instr) :
    (∃ ig d, i = .bit ig d) ∨ (∃ ig d, i = .sync ig d) ∨ i = .eos ∨ i = .reset ∨
      ∃ t f, i = Instr.ofFrame t f := by
  rcases exec_cases i State.reset with
    ⟨ig, d, h, -⟩ | ⟨ig, d, h, -⟩ | ⟨h, -⟩ | ⟨h, -⟩ | ⟨t, f, h, -⟩
  · exact .inl ⟨ig, d, h⟩
  · exact .inr (.inl ⟨ig, d, h⟩)
  · exact .inr (.inr (.inl h))
  · exact .inr (.inr (.inr (.inl h)))
  · exact .inr (.inr (.inr (.inr ⟨t, f, h⟩)))

/-- Reading the type and fields of an instruction and building it from them are inverse. -/
theorem eq_ofFrame_of_frame? {i : Instr} {t : FrameType} {f : FrameFields}
    (h : i.frame? = some (t, f)) : i = Instr.ofFrame t f := by
  rcases instr_cases i with ⟨_, _, rfl⟩ | ⟨_, _, rfl⟩ | rfl | rfl | ⟨t', f', rfl⟩
  case inr.inr.inr.inr =>
    obtain ⟨rfl, rfl⟩ : t' = t ∧ f' = f := by simpa using h
    rfl
  all_goals cases h

/-- A frame instruction is carried by the frame of its type and fields. -/
theorem encode_ofFrame (p : Params) (t : FrameType) (f : FrameFields) :
    encode p (Instr.ofFrame t f) = .frame (encodeFrame p t f) := by
  cases t <;> rfl

@[simp] theorem wellFormed_ofFrame (t : FrameType) (f : FrameFields) :
    (Instr.ofFrame t f).wellFormed = f.wellFormed := by
  simp [Instr.wellFormed]

/-- Rule R175 as an inequality: the length byte asks for no more than the frame has. -/
theorem fields_wellFormed_iff (f : FrameFields) :
    f.wellFormed = true ↔ f.length.toNat + 3 ≤ f.payload.length + 9 := by
  simp [FrameFields.wellFormed, Config.lenBias, Config.minDecodable, Config.hdrSize, Config.crcSize]

/-- Different types or fields give different instructions, since both can be read back. -/
theorem ofFrame_injective {t t' : FrameType} {f f' : FrameFields}
    (h : Instr.ofFrame t f = Instr.ofFrame t' f') : t = t' ∧ f = f' := by
  simpa using congrArg Instr.frame? h

/-- Settles O52: `FrameType.ofBits` inverts the numbering, so it picks the one type of each number. -/
theorem everyTypeNumberHasItsOwnInstruction : Obligations.EveryTypeNumberHasItsOwnInstruction := by
  refine ⟨fun n hn => ⟨FrameType.ofBits (BitVec.ofNat 5 n), ?_, fun t ht => ?_⟩,
    fun t t' f f' h => ofFrame_injective h⟩
  · rw [frameType_bits_ofBits, BitVec.toNat_ofNat, Nat.mod_eq_of_lt hn]
  · rw [← ht, BitVec.ofNat_toNat, BitVec.setWidth_eq, frameType_ofBits_bits]

/-! ### Bytes and slices of a frame -/

/-- A read within the first part does not look at what follows it. -/
theorem byteAt_append_left {A B : List Byte} {o : Nat} (h : o < A.length) :
    byteAt (A ++ B) o = byteAt A o := by
  simp [byteAt, List.getElem?_append_left h]

/-- The byte at an offset within the sequence, as an optional read that succeeds. -/
theorem getElem?_eq_some_byteAt {F : List Byte} {o : Nat} (h : o < F.length) :
    F[o]? = some (byteAt F o) := by
  rw [byteAt_eq_getElem h, List.getElem?_eq_getElem h]

/-- The slice between two parts is found by the first part's length. -/
theorem memRead_append_middle (A B C : List Byte) :
    memRead (A ++ B ++ C) A.length B.length = B := by
  simp [memRead]

/-- A frame is the bytes before its last two, and those two as a trailer (rules R52, R85). -/
theorem crcTrailer_be16 {F : List Byte} {o : Nat} (h : o + 2 = F.length) :
    crcTrailer (be16 F o) = F.drop o := by
  have h0 : o < F.length := by omega
  have h1 : o + 1 < F.length := by omega
  have hdrop : F.drop o = [byteAt F o, byteAt F (o + 1)] := by
    rw [List.drop_eq_getElem_cons h0, List.drop_eq_getElem_cons h1,
      List.drop_eq_nil_of_le (by omega), byteAt_eq_getElem h0, byteAt_eq_getElem h1]
  have b0 := (byteAt F o).isLt
  have b1 := (byteAt F (o + 1)).isLt
  rw [hdrop, crcTrailer_eq, be16_toNat F o (by omega)]
  congr 1
  · apply BitVec.eq_of_toNat_eq
    simp only [BitVec.toNat_ofNat]; omega
  · congr 1
    apply BitVec.eq_of_toNat_eq
    simp only [BitVec.toNat_ofNat]; omega

/-- The seven bytes of a header are the ones at offsets 0 to 6. -/
theorem take_seven {F : List Byte} (h : 7 ≤ F.length) :
    F.take 7 = [byteAt F 0, byteAt F 1, byteAt F 2, byteAt F 3, byteAt F 4, byteAt F 5,
      byteAt F 6] := by
  match F, h with
  | a :: b :: c :: d :: e :: f :: g :: _, _ => rfl

/-! ### The encoded frame read back -/

/-- The check that `withTrailer` is built to pass (rule R173). -/
theorem crc16_take_withTrailer (M : List Byte) :
    crc16 ((withTrailer M).take M.length) = be16 (withTrailer M) M.length := by
  rw [withTrailer, be16_crcTrailer, List.take_left]

theorem encodeFrame_length (p : Params) (t : FrameType) (f : FrameFields) :
    (encodeFrame p t f).length = f.payload.length + 9 := by
  rw [encodeFrame, withTrailer_length, List.length_append, header_length]
  omega

/-- The length byte comes first, under either flags order (rule R84). -/
@[simp] theorem byteAt_encodeFrame_zero (p : Params) (t : FrameType) (f : FrameFields) :
    byteAt (encodeFrame p t f) 0 = f.length := rfl

@[simp] theorem flagsOf_encodeFrame (p : Params) (t : FrameType) (f : FrameFields) :
    flagsOf p.flagsOrder (encodeFrame p t f) = flagsByte t f := by
  unfold encodeFrame
  cases p.flagsOrder <;> rfl

@[simp] theorem flagsHiOf_encodeFrame (p : Params) (t : FrameType) (f : FrameFields) :
    flagsHiOf p.flagsOrder (encodeFrame p t f) = f.flagsHi := by
  unfold encodeFrame
  cases p.flagsOrder <;> rfl

/-- The four address bytes stand at offsets 3 to 6, under either flags order (rule R84). -/
theorem byteAt_encodeFrame_addresses (p : Params) (t : FrameType) (f : FrameFields) :
    byteAt (encodeFrame p t f) 3 = f.net ∧ byteAt (encodeFrame p t f) 4 = f.dest ∧
      byteAt (encodeFrame p t f) 5 = f.src ∧ byteAt (encodeFrame p t f) 6 = f.seq := by
  unfold encodeFrame
  cases p.flagsOrder <;> exact ⟨rfl, rfl, rfl, rfl⟩

/-- The payload lies between the header and the trailer (rule R177). -/
theorem memRead_encodeFrame_payload (p : Params) (t : FrameType) (f : FrameFields) :
    memRead (encodeFrame p t f) 7 f.payload.length = f.payload := by
  have h := memRead_append_middle (header p.flagsOrder t f) f.payload
    (crcTrailer (crc16 (header p.flagsOrder t f ++ f.payload)))
  rwa [header_length] at h

/-- The header parse recovers the fields. -/
theorem fieldsOf_encodeFrame (p : Params) (t : FrameType) (f : FrameFields) :
    fieldsOf p.flagsOrder (encodeFrame p t f) = f := by
  obtain ⟨-, har, hdp, hbit5⟩ := flagsByte_fields t f
  obtain ⟨hnet, hdest, hsrc, hseq⟩ := byteAt_encodeFrame_addresses p t f
  have hpayload : memRead (encodeFrame p t f) Config.hdrSize
      ((encodeFrame p t f).length - Config.minDecodable) = f.payload := by
    rw [encodeFrame_length]
    exact memRead_encodeFrame_payload p t f
  simp only [fieldsOf, flagsOf_encodeFrame, flagsHiOf_encodeFrame, byteAt_encodeFrame_zero, har, hdp,
    hbit5, hnet, hdest, hsrc, hseq, hpayload]

/-- The frame of a well-formed instruction passes the three checks and gives type and fields back. -/
theorem parseFrame_encodeFrame (p : Params) (t : FrameType) {f : FrameFields}
    (hf : f.wellFormed = true) : parseFrame p (encodeFrame p t f) = .ok (t, f) := by
  have hlength := encodeFrame_length p t f
  have hfits := (fields_wellFormed_iff f).mp hf
  have hcrc : crc16 ((encodeFrame p t f).take ((encodeFrame p t f).length - 2)) =
      be16 (encodeFrame p t f) ((encodeFrame p t f).length - 2) := by
    have hbody : (encodeFrame p t f).length - 2 = (header p.flagsOrder t f ++ f.payload).length := by
      rw [hlength, List.length_append, header_length]; omega
    rw [hbody]
    exact crc16_take_withTrailer _
  rcases parseFrame_cases p (encodeFrame p t f) with
    ⟨hshort, -⟩ | ⟨-, hne, -⟩ | ⟨-, -, hexceeds, -⟩ | ⟨-, -, -, hok⟩
  · omega
  · exact absurd hcrc hne
  · rw [byteAt_encodeFrame_zero] at hexceeds
    omega
  · rw [hok, flagsOf_encodeFrame, (flagsByte_fields t f).1, frameType_ofBits_bits,
      fieldsOf_encodeFrame]

/-- Settles O1: a symbol's three fields read back, and a frame's type and fields do. -/
theorem decodeOfEncodeIsTheInstruction : Obligations.DecodeOfEncodeIsTheInstruction := by
  intro p i hi
  have symbol (ig : BitVec 6) (s d : Bool) : decodeSymbol (symbolByte ig s d) =
      if s then .sync ig d else .bit ig d := by
    obtain ⟨hsync, hdata, hignored⟩ := symbolByte_fields ig s d
    rw [decodeSymbol_eq, hsync, hdata, hignored]
  rcases instr_cases i with ⟨ig, d, rfl⟩ | ⟨ig, d, rfl⟩ | rfl | rfl | ⟨t, f, rfl⟩
  · exact congrArg Except.ok (symbol ig false d)
  · exact congrArg Except.ok (symbol ig true d)
  · rfl
  · rfl
  · rw [wellFormed_ofFrame] at hi
    simp only [encode_ofFrame, decodeInput, decodeFrame, parseFrame_encodeFrame p t hi]

/-! ### The accepted frame written again -/

/-- The fields of a frame lay its first seven bytes out again. -/
theorem header_fieldsOf (o : ByteOrder) {F : List Byte} (h : 7 ≤ F.length) :
    header o (FrameType.ofBits (typeBits (flagsOf o F))) (fieldsOf o F) = F.take 7 := by
  have hflags : flagsByte (FrameType.ofBits (typeBits (flagsOf o F))) (fieldsOf o F) =
      flagsOf o F := by
    rw [flagsByte, frameType_bits_ofBits]
    exact flagsByte_of_fields (flagsOf o F)
  rw [take_seven h]
  cases o <;> simp only [header, flagsField, hflags] <;> rfl

theorem fieldsOf_payload (o : ByteOrder) (F : List Byte) :
    (fieldsOf o F).payload = (F.drop 7).take (F.length - 9) := rfl

/-- The payload has all but the nine bytes of header and trailer (rule R177). -/
theorem fieldsOf_payload_length (o : ByteOrder) {F : List Byte} (h : 9 ≤ F.length) :
    (fieldsOf o F).payload.length = F.length - 9 :=
  memRead_length (o := 7) (k := F.length - 9) (by omega)

/-- A frame that passes the CRC check is the encoding of its type and fields. -/
theorem encodeFrame_fieldsOf (p : Params) {F : List Byte} (h9 : 9 ≤ F.length)
    (hcrc : crc16 (F.take (F.length - 2)) = be16 F (F.length - 2)) :
    encodeFrame p (FrameType.ofBits (typeBits (flagsOf p.flagsOrder F))) (fieldsOf p.flagsOrder F) =
      F := by
  have hbody : F.take 7 ++ (F.drop 7).take (F.length - 9) = F.take (F.length - 2) := by
    rw [← List.take_add]
    congr 1
    omega
  rw [encodeFrame, header_fieldsOf _ (by omega), fieldsOf_payload, hbody, withTrailer, hcrc,
    crcTrailer_be16 (by omega), List.take_append_drop]

/-- What an accepted frame is: it passes the checks, and its type and fields are those at its
offsets. -/
theorem parseFrame_eq_ok {p : Params} {F : List Byte} {t : FrameType} {f : FrameFields}
    (h : parseFrame p F = .ok (t, f)) :
    9 ≤ F.length ∧ crc16 (F.take (F.length - 2)) = be16 F (F.length - 2) ∧
      (byteAt F 0).toNat + 3 ≤ F.length ∧
      t = FrameType.ofBits (typeBits (flagsOf p.flagsOrder F)) ∧ f = fieldsOf p.flagsOrder F := by
  rcases parseFrame_cases p F with ⟨-, e⟩ | ⟨-, -, e⟩ | ⟨-, -, -, e⟩ | ⟨h9, hcrc, hlen, e⟩ <;>
    rw [h] at e
  case inr.inr.inr =>
    obtain ⟨rfl, rfl⟩ : t = _ ∧ f = _ := by simpa using e
    exact ⟨h9, hcrc, hlen, rfl, rfl⟩
  all_goals cases e

/-- What a frame decodes to is the instruction of the type and fields that the parse gives. -/
theorem decodeFrame_eq_ok {p : Params} {F : List Byte} {i : Instr} (h : decodeFrame p F = .ok i) :
    ∃ t f, parseFrame p F = .ok (t, f) ∧ i = Instr.ofFrame t f := by
  rcases decodeFrame_cases p F with ⟨e, -, hd⟩ | ⟨t, f, hp, hd⟩ <;> rw [h] at hd
  · cases hd
  · exact ⟨t, f, hp, by simpa using hd⟩

/-- An accepted frame is the encoding of the well-formed instruction it decodes to. -/
theorem encode_of_decodeFrame {p : Params} {F : List Byte} {i : Instr}
    (h : decodeFrame p F = .ok i) : i.wellFormed = true ∧ encode p i = .frame F := by
  obtain ⟨t, f, hp, rfl⟩ := decodeFrame_eq_ok h
  obtain ⟨h9, hcrc, hlen, rfl, rfl⟩ := parseFrame_eq_ok hp
  refine ⟨?_, ?_⟩
  · rw [wellFormed_ofFrame, fields_wellFormed_iff, fieldsOf_payload_length _ h9]
    change (byteAt F 0).toNat + 3 ≤ _
    omega
  · rw [encode_ofFrame, encodeFrame_fieldsOf p h9 hcrc]

/-- Every symbol byte is the encoding of its instruction, the ignored bits included. -/
theorem encode_decodeSymbol (p : Params) (y : Byte) :
    encode p (decodeSymbol y) = .stream (.symbol y) := by
  have hy := symbolByte_of_fields y
  rw [decodeSymbol_eq]
  cases hsync : symSync y <;> rw [hsync] at hy
  · exact congrArg (fun z => Input.stream (.symbol z)) hy
  · exact congrArg (fun z => Input.stream (.symbol z)) hy

theorem wellFormed_decodeSymbol (y : Byte) : (decodeSymbol y).wellFormed = true := by
  rw [decodeSymbol_eq]
  cases symSync y <;> rfl

/-- Settles O2: by the kind of input; only a `RESET` that came with a stream item is not written
again. -/
theorem encodeOfDecodeIsTheInput : Obligations.EncodeOfDecodeIsTheInput := by
  intro p x i h
  match x with
  | .stream (.symbol y) =>
    cases h
    exact ⟨wellFormed_decodeSymbol y, fun _ => encode_decodeSymbol p y⟩
  | .stream .eos => cases h; exact ⟨rfl, fun _ => rfl⟩
  | .reset none => cases h; exact ⟨rfl, fun _ => rfl⟩
  | .reset (some lost) => cases h; exact ⟨rfl, fun hnone => absurd rfl (hnone lost)⟩
  | .frame F =>
    obtain ⟨hwf, henc⟩ := encode_of_decodeFrame h
    exact ⟨hwf, fun _ => henc⟩

/-- Settles O5: four runs of the decoder. -/
theorem writtenOutWordsDecode : Obligations.WrittenOutWordsDecode := by
  refine ⟨?bit, ?sync, ?ack, ?rawData⟩
  all_goals decide +kernel

/-! ### The three checks -/

/-- A decode that fails gives the error of the parse. -/
theorem decodeFrame_eq_error_iff {p : Params} {F : List Byte} {e : DecodeError} :
    decodeFrame p F = .error e ↔ parseFrame p F = .error e := by
  rcases decodeFrame_cases p F with ⟨e', hp, hd⟩ | ⟨t, f, hp, hd⟩ <;> simp [hp, hd]

/-- A word is the received CRC if its value is the big-endian one of the last two bytes (rule R52). -/
theorem eq_be16_iff {F : List Byte} (h : 2 ≤ F.length) {v : Word16} :
    v = be16 F (F.length - 2) ↔
      v.toNat = (byteAt F (F.length - 2)).toNat * 256 + (byteAt F (F.length - 1)).toNat := by
  rw [← BitVec.toNat_inj, be16_toNat F _ (by omega), show F.length - 2 + 1 = F.length - 1 by omega]

/-- Settles O39: the other three ends of the parse need nine bytes and give other results. -/
theorem frameTooShortExactlyBelowNineBytes : Obligations.FrameTooShortExactlyBelowNineBytes := by
  intro p F
  simp only [ne_eq, decodeFrame_eq_error_iff]
  rcases parseFrame_cases p F with ⟨h, e⟩ | ⟨h, -, e⟩ | ⟨h, -, -, e⟩ | ⟨h, -, -, e⟩ <;> rw [e]
  · exact ⟨fun _ => rfl, fun h9 => absurd h (by omega)⟩
  all_goals exact ⟨fun hshort => absurd hshort (by omega), fun _ n => by simp⟩

/-- Settles O40: the second end of the parse, read back; the others give no `CrcError`. -/
theorem crcErrorExactlyOnMismatch : Obligations.CrcErrorExactlyOnMismatch := by
  intro p F computed received
  rw [decodeFrame_eq_error_iff]
  rcases parseFrame_cases p F with
    ⟨h, e⟩ | ⟨h9, hne, e⟩ | ⟨h9, heq, -, e⟩ | ⟨h9, heq, -, e⟩ <;> rw [e]
  · simp [show ¬ 9 ≤ F.length by omega]
  · rw [← eq_be16_iff (by omega)]
    constructor
    · intro h
      obtain ⟨rfl, rfl⟩ : _ = computed ∧ _ = received := by simpa using h
      exact ⟨h9, rfl, rfl, hne⟩
    · rintro ⟨-, rfl, rfl, -⟩
      rfl
  all_goals
    rw [← eq_be16_iff (by omega)]
    exact ⟨fun h => by simp at h, fun ⟨_, hc, hr, hne⟩ => absurd (hc.trans (heq.trans hr.symm)) hne⟩

/-- Settles O41: the third end of the parse, read back; it lies behind the CRC check. -/
theorem payloadTooShortExactlyWhenLengthExceeds :
    Obligations.PayloadTooShortExactlyWhenLengthExceeds := by
  intro p F L n
  rw [decodeFrame_eq_error_iff]
  rcases parseFrame_cases p F with
    ⟨h, e⟩ | ⟨h9, hne, e⟩ | ⟨h9, heq, hexceeds, e⟩ | ⟨h9, heq, hfits, e⟩ <;> rw [e]
  · simp [show ¬ 9 ≤ F.length by omega]
  · rw [← eq_be16_iff (by omega)]
    simp [hne]
  · rw [← eq_be16_iff (by omega)]
    constructor
    · intro h
      obtain ⟨rfl, rfl⟩ : _ = L ∧ _ = n := by simpa using h
      exact ⟨h9, heq, rfl, rfl, hexceeds⟩
    · rintro ⟨-, -, rfl, rfl, -⟩
      rfl
  · refine ⟨fun h => by simp at h, ?_⟩
    rintro ⟨-, -, rfl, -, hexceeds⟩
    omega

/-! ### The fields of an accepted frame -/

/-- The type field is the flags byte modulo 32 (rule R176). -/
theorem typeBits_toNat (flags : Byte) : (typeBits flags).toNat = flags.toNat % 32 := by
  simp [typeBits, BitVec.extractLsb'_toNat]

/-- AR as the mask that rule R176 writes. -/
theorem flagAR_eq_mask (flags : Byte) : flagAR flags = decide (flags &&& 0x40#8 ≠ 0#8) := by
  revert flags
  decide +kernel

/-- DP as the mask that rule R176 writes. -/
theorem flagDP_eq_mask (flags : Byte) : flagDP flags = decide (flags &&& 0x80#8 ≠ 0#8) := by
  revert flags
  decide +kernel

/-- Rule R53: where the semantic flags byte and the ignored one stand. -/
theorem flagsOf_eq_byteAt (o : ByteOrder) (F : List Byte) :
    flagsOf o F = byteAt F (if o = .le then 1 else 2) ∧
      flagsHiOf o F = byteAt F (if o = .le then 2 else 1) := by
  cases o <;> exact ⟨rfl, rfl⟩

/-- Byte `k` of the payload stands at offset `7 + k` of the frame (rule R177). -/
theorem fieldsOf_payload_getElem? (o : ByteOrder) {F : List Byte} {k : Nat} (h : k < F.length - 9) :
    (fieldsOf o F).payload[k]? = F[7 + k]? := by
  rw [fieldsOf_payload, List.getElem?_take_of_lt h, List.getElem?_drop]

/-- Settles O42: the fourth end of the parse, each field read at its offset. -/
theorem acceptedFrameFieldsAreAtTheirOffsets : Obligations.AcceptedFrameFieldsAreAtTheirOffsets := by
  intro p F h9 hcrc hlen
  rw [← eq_be16_iff (by omega)] at hcrc
  have hparse : parseFrame p F = .ok (FrameType.ofBits (typeBits (flagsOf p.flagsOrder F)),
      fieldsOf p.flagsOrder F) := by
    rcases parseFrame_cases p F with ⟨h, -⟩ | ⟨-, h, -⟩ | ⟨-, -, h, -⟩ | ⟨-, -, -, e⟩
    · omega
    · exact absurd hcrc h
    · omega
    · exact e
  obtain ⟨hflags, hhi⟩ := flagsOf_eq_byteAt p.flagsOrder F
  have some_byteAt {o : Nat} (ho : o < 9) : F[o]? = some (byteAt F o) :=
    getElem?_eq_some_byteAt (by omega)
  refine ⟨_, fieldsOf p.flagsOrder F, flagsOf p.flagsOrder F, flagsHiOf p.flagsOrder F,
    by rw [decodeFrame, hparse], ?flags, ?flagsHi, ?type, flagAR_eq_mask _, flagDP_eq_mask _, rfl,
    rfl, some_byteAt (by omega), some_byteAt (by omega), some_byteAt (by omega),
    some_byteAt (by omega), some_byteAt (by omega), fieldsOf_payload_length _ h9,
    fun k hk => fieldsOf_payload_getElem? _ hk⟩
  case flags => rw [hflags]; exact some_byteAt (by split <;> omega)
  case flagsHi => rw [hhi]; exact some_byteAt (by split <;> omega)
  case type => rw [frameType_bits_ofBits, typeBits_toNat]

/-! ### The frame's instruction -/

/-- The record of a frame's decode is that of the instruction it decodes to (rule R178). -/
theorem decodeResult_of_parseFrame {p : Params} {F : List Byte} {t : FrameType} {f : FrameFields}
    (h : parseFrame p F = .ok (t, f)) :
    decodeResult p F = decodedRecord t f (dispatch p t f.payload) := by
  simp only [decodeResult, h]

/-- Settles O32: the instruction's report is that of the frame, and the hand-over puts out the frame
and that report. -/
theorem handedOverFrameRunsItsInstruction : Obligations.HandedOverFrameRunsItsInstruction := by
  intro s F i h
  obtain ⟨t, f, hp, rfl⟩ := decodeFrame_eq_ok h
  rw [deliver_eq, exec_ofFrame, exec_ofFrame, decodeResult_of_parseFrame hp]
  exact ⟨rfl, rfl⟩

end Sys2Proof.Machine
end

section
/-!
One step of the block (rules R120 to R131, R288, R289): what each input does to which field, and what a
run keeps because every step keeps it.
-/

namespace Sys2Proof.Machine

/-! ### The step by its input -/

/-- A step that takes an input which decodes runs its instruction at the block without that input. -/
theorem step_of_decodeInput {s : State} {x : Input} {rest : List Input} {i : Instr}
    (hinput : s.input = x :: rest) (hdecode : decodeInput s.params x = .ok i) :
    step s = exec i (s.setInput rest) := by
  simp only [step, fetch, hinput, State.setInput_params, hdecode]

/-- A step that takes an input which does not decode raises its error. -/
theorem step_of_decodeInput_error {s : State} {x : Input} {rest : List Input} {e : DecodeError}
    (hinput : s.input = x :: rest) (hdecode : decodeInput s.params x = .error e) :
    step s = .next (raiseError e (s.setInput rest)) := by
  simp only [step, fetch, hinput, State.setInput_params, hdecode]

/-- A block with no input waits (rule R131). -/
theorem step_waiting {s : State} (h : s.input = []) : step s = .next s := by
  simp only [step, fetch, h]

theorem step_eos {s : State} {rest : List Input} (h : s.input = .stream .eos :: rest) :
    step s = .next (s.setInput rest).close :=
  step_of_decodeInput h rfl

theorem step_reset {s : State} {lost : Option StreamItem} {rest : List Input}
    (h : s.input = .reset lost :: rest) : step s = .next (s.setInput rest).resetRegisters :=
  step_of_decodeInput h rfl

/-- Settles O6: fetching takes the input off, and decoding reads only the parameters. -/
theorem stepRunsTheDecodedInstruction : Obligations.StepRunsTheDecodedInstruction :=
  fun _ _ _ _ hinput hdecode => step_of_decodeInput hinput hdecode

/-- Settles O7: the error's report, with its code by the kind of error. -/
theorem decodeErrorReplacesOnlyTheResult : Obligations.DecodeErrorReplacesOnlyTheResult := by
  intro s x rest e hinput hdecode
  rw [step_of_decodeInput_error hinput hdecode]
  cases e <;> rfl

/-- Settles O17: whatever came with it, `RESET` decodes to itself alone. -/
theorem resetBeatsAStreamItem : Obligations.ResetBeatsAStreamItem :=
  fun _ _ _ hinput => step_of_decodeInput hinput rfl

/-- Settles O31: a frame's step is one report of its decode. -/
theorem decodeChangesNoRegister : Obligations.DecodeChangesNoRegister :=
  fun s F rest hinput => step_frame s F rest hinput

/-- Settles O9: each of the five kinds of step has a next state. -/
theorem everyStepCompletes : Obligations.EveryStepCompletes := by
  intro s
  rcases step_cases s with ⟨-, h⟩ | ⟨_, _, -, h⟩ | ⟨_, -, h⟩ | ⟨_, _, -, h⟩ | ⟨_, _, -, h⟩ <;>
    exact ⟨_, h⟩

/-! ### Runs -/

/-- A run of `k + 1` steps is a step, which completes, and a run of `k`. -/
theorem run_succ_eq {s t : State} {k : Nat} (h : run (k + 1) s = .next t) :
    ∃ u, step s = .next u ∧ run k u = .next t := by
  obtain ⟨u, hu⟩ := everyStepCompletes s
  rw [run_succ_of_step hu] at h
  exact ⟨u, hu, h⟩

/-- What every step keeps, every run keeps. -/
theorem run_induction {P : State → Prop} (hstep : ∀ s t, P s → step s = .next t → P t) {k : Nat}
    {s t : State} (hs : P s) (h : run k s = .next t) : P t := by
  induction k generalizing s with
  | zero => cases h; exact hs
  | succ k ih =>
    obtain ⟨u, hu, hrun⟩ := run_succ_eq h
    exact ih (hstep s u hs hu) hrun

/-- Settles O8: each step of the run is a wait. -/
theorem waitingChangesNothing : Obligations.WaitingChangesNothing := by
  intro s k h
  induction k with
  | zero => rfl
  | succ k ih => rw [run_succ_of_step (step_waiting h), ih]

/-! ### A closed block -/

/-- A closed block drops every symbol (log entry 6). -/
theorem offerSymbol_of_closed {s : State} (h : s.closed = true) (sync d : Bool) :
    offerSymbol sync d s = s := by
  simp [offerSymbol, h]

theorem close_of_closed {s : State} (h : s.closed = true) : s.close = s := by
  cases s; cases h; rfl

/-- Settles O14: none of the three has an effect while closed. -/
theorem closedBlockDropsSymbols : Obligations.ClosedBlockDropsSymbols := by
  intro s ig d h
  refine ⟨?bit, ?sync, ?eos⟩
  case bit => rw [exec_bit, offerSymbol_of_closed h]
  case sync => rw [exec_sync, offerSymbol_of_closed h]
  case eos => exact congrArg Host.Outcome.next (close_of_closed h)

/-- Settles O13: an input of the stream leaves a closed block as it is, and a frame instruction leaves
`closed` as it is, so only `RESET` is left. -/
theorem endOfStreamClosesTheBlock : Obligations.EndOfStreamClosesTheBlock := by
  refine ⟨fun s => rfl, fun s t ig d hclosed hexec => ?same, fun i s t hclosed hexec hopen => ?reset⟩
  case same =>
    obtain ⟨hbit, hsync, heos⟩ := closedBlockDropsSymbols s ig d hclosed
    rw [hbit, hsync, heos, or_self, or_self] at hexec
    cases hexec
    exact ⟨rfl, rfl, rfl, rfl, rfl, rfl, hclosed, rfl, rfl⟩
  case reset =>
    rcases exec_cases i s with ⟨_, _, -, e⟩ | ⟨_, _, -, e⟩ | ⟨-, e⟩ | ⟨rfl, -⟩ | ⟨_, _, -, e⟩
    case inr.inr.inr.inl => rfl
    all_goals
      rw [e] at hexec
      cases hexec
      simp [offerSymbol_of_closed hclosed, hclosed] at hopen

/-! ### `RESET` -/

/-- Settles O15: `RESET` writes the seven registers. -/
theorem resetPutsEveryRegisterAtItsResetValue :
    Obligations.ResetPutsEveryRegisterAtItsResetValue := fun _ => rfl

/-- Settles O16: the seven reset values. -/
theorem stateAfterReset : Obligations.StateAfterReset := ⟨rfl, rfl, rfl, rfl, rfl, rfl, rfl⟩

/-! ### A symbol without the sync flag -/

/-- The completion test after the first or a later byte, over the values before it (rules R124,
R125). -/
theorem frameComplete_iff (d : Bool) (s : State) :
    (s.shift d).appendByte.latchLength.frameComplete = true ↔
      0 < (s.shift d).appendByte.latchLength.declaredLength.toNat ∧
        s.byteCount + 1#32 = (s.shift d).appendByte.latchLength.declaredLength := by
  simp [State.frameComplete, BitVec.lt_def]

/-- The length after the eighth bit: the first byte plus 3, or what it was (rule R124). -/
theorem latchLength_declaredLength_eq (d : Bool) (s : State) :
    (s.shift d).appendByte.latchLength.declaredLength =
      if s.byteCount = 0#32 then (s.shift d).sr.setWidth 32 + 3#32 else s.declaredLength := by
  have hfirst : s.byteCount + 1#32 = 1#32 ↔ s.byteCount = 0#32 := by bv_omega
  simp only [State.latchLength_declaredLength, State.appendByte_byteCount, State.shift_byteCount,
    hfirst]
  rfl

/-- Settles O11: the four things a bit can do, the length and the completion test written out. -/
theorem bitSymbolEffect : Obligations.BitSymbolEffect := by
  refine ⟨fun p y hsync => ?decode, fun ig d s hopen => ?effect⟩
  case decode =>
    have hbit : symSync y = false := hsync
    rw [decodeInput_symbol, decodeSymbol_eq, hbit]
    rfl
  case effect =>
    intro sr L
    have hsr : (s.shift d).sr = sr := shift_sr_eq d s
    have hL : (s.shift d).appendByte.latchLength.declaredLength = L := by
      rw [latchLength_declaredLength_eq, hsr]
    have hcomplete := frameComplete_iff d s
    rw [hL] at hcomplete
    rw [exec_bit, offerSymbol_of_open hopen, ← hL, ← hsr]
    rcases takeSymbol_cases false d s with
      ⟨h, -⟩ | ⟨-, hs, h⟩ | ⟨-, hs, hb, h⟩ | ⟨-, hs, hb, hc, h⟩ | ⟨-, hs, hb, hc, h⟩
    · cases h
    · rw [if_pos hs, h]; rfl
    · rw [if_neg (by simp [hs]), if_pos hb, h]; rfl
    · rw [hc] at hcomplete
      rw [if_neg (by simp [hs]), if_neg (by simp [hb]), hL, if_neg (by simpa using hcomplete), ← hL, h]
      rfl
    · rw [if_neg (by simp [hs]), if_neg (by simp [hb]), hL, if_pos (hcomplete.mp hc), ← hL, h]
      rfl

/-! ### The buffer -/

/-- A bit leaves the buffer as it is, or appends the shifted `sr` (rules R123, R66). -/
theorem takeSymbol_bit_buffer (d : Bool) (s : State) :
    (takeSymbol false d s).buffer = s.buffer ∨
      (takeSymbol false d s).buffer = s.buffer.append (s.shift d).sr := by
  rcases takeSymbol_cases false d s with
    ⟨h, -⟩ | ⟨-, -, h⟩ | ⟨-, -, -, h⟩ | ⟨-, -, -, -, h⟩ | ⟨-, -, -, -, h⟩
  · cases h
  all_goals rw [h]
  · exact .inl rfl
  · exact .inl rfl
  · exact .inr rfl
  · exact .inr rfl

/-- Settles O12: by the instruction; only an open block's bit can store. -/
theorem onlyStoreIsTheAppend : Obligations.OnlyStoreIsTheAppend := by
  intro i s t hexec
  rcases exec_cases i s with ⟨ig, d, rfl, e⟩ | ⟨ig, d, rfl, e⟩ | ⟨-, e⟩ | ⟨rfl, e⟩ | ⟨_, _, -, e⟩ <;>
    rw [e] at hexec <;> cases hexec
  · rcases offerSymbol_cases false d s with ⟨-, h⟩ | ⟨-, h⟩ <;> rw [h]
    · exact .inl fun _ => rfl
    · rcases takeSymbol_bit_buffer d s with hsame | happend
      · exact .inl fun a => by rw [hsame]
      · refine .inr (.inr ⟨ig, d, rfl, ?_, fun a ha => ?_⟩)
        · rw [happend, Memory.read_append_end, shift_sr_eq]
        · rw [happend, Memory.read_append_other _ _ ha]
  · rcases offerSymbol_cases true d s with ⟨-, h⟩ | ⟨-, h⟩ <;> rw [h]
    · exact .inl fun _ => rfl
    · refine .inr (.inl ⟨.inl ⟨ig, d, rfl⟩, fun a => ?_⟩)
      rw [takeSymbol_sync]
      rfl
  · exact .inl fun _ => rfl
  · exact .inr (.inl ⟨.inr rfl, fun _ => rfl⟩)
  · exact .inl fun _ => rfl

/-! ### `synced` and the outputs -/

/-- What a symbol puts out: nothing, or one frame and the report of its decode (rule R125). -/
theorem takeSymbol_outputs (sync d : Bool) (s : State) :
    ((takeSymbol sync d s).frames = s.frames ∧ (takeSymbol sync d s).reports = s.reports) ∨
      ∃ F, (takeSymbol sync d s).frames = s.frames ++ [F] ∧
        (takeSymbol sync d s).reports = s.reports ++ [reportOf (decodeResult s.params F)] := by
  rcases takeSymbol_cases sync d s with
    ⟨-, h⟩ | ⟨-, -, h⟩ | ⟨-, -, -, h⟩ | ⟨-, -, -, -, h⟩ | ⟨-, -, -, -, h⟩ <;> rw [h]
  case inr.inr.inr.inr => exact .inr ⟨_, rfl, rfl⟩
  all_goals exact .inl ⟨rfl, rfl⟩

/-- A symbol that takes the block to SYNCED is a pulse (rule R22). -/
theorem takeSymbol_raises_synced {sync d : Bool} {s : State} (hs : s.synced = false)
    (ht : (takeSymbol sync d s).synced = true) : sync = true := by
  rcases takeSymbol_cases sync d s with ⟨h, -⟩ | ⟨-, -, h⟩ | ⟨-, h, -⟩ | ⟨-, h, -⟩ | ⟨-, h, -⟩
  · exact h
  · rw [h, State.shift_synced, hs] at ht
    cases ht
  all_goals
    rw [hs] at h
    cases h

/-- A symbol that takes the block to UNSYNCED ends a frame (rules R22, R125). -/
theorem takeSymbol_clears_synced {sync d : Bool} {s : State} (hs : s.synced = true)
    (ht : (takeSymbol sync d s).synced = false) :
    ∃ F, (takeSymbol sync d s).frames = s.frames ++ [F] := by
  rcases takeSymbol_cases sync d s with
    ⟨-, h⟩ | ⟨-, h, -⟩ | ⟨-, -, -, h⟩ | ⟨-, -, -, -, h⟩ | ⟨-, -, -, -, h⟩
  case inr.inl =>
    rw [hs] at h
    cases h
  case inr.inr.inr.inr => exact ⟨_, congrArg State.frames h⟩
  all_goals
    rw [h] at ht
    simp [hs] at ht

/-- Settles O18: of the inputs, only a symbol and `RESET` write `synced`. -/
theorem onlyAPulseRaisesSynced : Obligations.OnlyAPulseRaisesSynced := by
  intro s t hstep
  rcases step_cases s with
    ⟨-, e⟩ | ⟨y, rest, hinput, e⟩ | ⟨_, -, e⟩ | ⟨lost, rest, hinput, e⟩ | ⟨_, _, -, e⟩ <;>
    rw [e] at hstep <;> cases hstep
  case inr.inl =>
    rcases offerSymbol_cases (symSync y) (symData y) (s.setInput rest) with ⟨-, h⟩ | ⟨hopen, h⟩ <;>
      rw [h]
    · exact ⟨fun hs ht => by simp [hs] at ht, fun hs ht => by simp [hs] at ht⟩
    · exact ⟨fun hs ht =>
          ⟨y, rest, hinput, takeSymbol_raises_synced (s := s.setInput rest) hs ht, hopen⟩,
        fun hs ht => .inr (takeSymbol_clears_synced hs ht)⟩
  case inr.inr.inr.inl => exact ⟨fun _ ht => by simp at ht, fun _ _ => .inl ⟨lost, rest, hinput⟩⟩
  all_goals exact ⟨fun hs ht => by simp [hs] at ht, fun hs ht => by simp [hs] at ht⟩

/-- Settles O29: of the inputs, only a symbol and a frame put anything out. -/
theorem oneReportForEveryFrame : Obligations.OneReportForEveryFrame := by
  intro s t hstep
  rcases step_cases s with
    ⟨-, e⟩ | ⟨y, rest, hinput, e⟩ | ⟨_, -, e⟩ | ⟨_, _, -, e⟩ | ⟨F, rest, hinput, e⟩ <;>
    rw [e] at hstep <;> cases hstep
  case inr.inl =>
    rcases offerSymbol_cases (symSync y) (symData y) (s.setInput rest) with ⟨-, h⟩ | ⟨-, h⟩ <;> rw [h]
    · exact .inl ⟨rfl, rfl⟩
    · rcases takeSymbol_outputs (symSync y) (symData y) (s.setInput rest) with hnone | ⟨F, hF, hR⟩
      · exact .inl hnone
      · exact .inr (.inl ⟨y, rest, F, hinput, hF, hR⟩)
  case inr.inr.inr.inr => exact .inr (.inr ⟨F, rest, hinput, rfl, rfl⟩)
  all_goals exact .inl ⟨rfl, rfl⟩

/-! ### The parameters -/

@[simp] theorem takeSymbol_params (sync d : Bool) (s : State) :
    (takeSymbol sync d s).params = s.params := by
  rcases takeSymbol_cases sync d s with
    ⟨-, h⟩ | ⟨-, -, h⟩ | ⟨-, -, -, h⟩ | ⟨-, -, -, -, h⟩ | ⟨-, -, -, -, h⟩ <;> rw [h] <;> rfl

@[simp] theorem takeSymbol_closed (sync d : Bool) (s : State) :
    (takeSymbol sync d s).closed = s.closed := by
  rcases takeSymbol_cases sync d s with
    ⟨-, h⟩ | ⟨-, -, h⟩ | ⟨-, -, -, h⟩ | ⟨-, -, -, -, h⟩ | ⟨-, -, -, -, h⟩ <;> rw [h] <;> rfl

/-- No input writes the parameters (rule R32). -/
theorem step_params {s t : State} (h : step s = .next t) : t.params = s.params := by
  rcases step_cases s with ⟨-, e⟩ | ⟨y, rest, -, e⟩ | ⟨_, -, e⟩ | ⟨_, _, -, e⟩ | ⟨_, _, -, e⟩ <;>
    rw [e] at h <;> cases h
  case inr.inl =>
    rcases offerSymbol_cases (symSync y) (symData y) (s.setInput rest) with ⟨-, h⟩ | ⟨-, h⟩ <;>
      simp [h]
  all_goals rfl

/-- Settles O30: every step keeps the parameters, so every run does. -/
theorem parametersNeverChange : Obligations.ParametersNeverChange := by
  intro s t k hrun
  exact run_induction (P := fun u => u.params = s.params)
    (fun _ _ hu hstep => (step_params hstep).trans hu) rfl hrun

end Sys2Proof.Machine
end

section
/-!
The invariant of the synchronizer's registers (rule R29) and what it says of emitted frames (rules R132,
R181). Only the eighth bit of a byte needs an argument: `ByteTaken` is what holds between the append and
the completion test, and both ends of that test lead back to the invariant.
-/

namespace Sys2Proof.Machine

/-! ### What the invariant does not read -/

theorem State.Inv.shift {s : State} (h : s.Inv) (d : Bool) : (s.shift d).Inv := h

theorem State.Inv.setInput {s : State} (h : s.Inv) (rest : List Input) : (s.setInput rest).Inv := h

theorem State.Inv.close {s : State} (h : s.Inv) : s.close.Inv := h

theorem State.Inv.report {s : State} (h : s.Inv) (r : DecodeResult) : (s.report r).Inv := h

theorem State.Inv.emit {s : State} (h : s.Inv) (F : List Byte) : (s.emit F).Inv := h

/-! ### The updates that start or go on with a frame -/

/-- The bit count of a SYNCED block is not bounded by more than its type (rule R29 (e)). -/
theorem State.Inv.countBit {s : State} (h : s.Inv) (hs : s.synced = true) : s.countBit.Inv := by
  obtain ⟨-, hrest⟩ := h
  exact ⟨fun hu => absurd (hs.symm.trans hu) (by simp), hrest⟩

/-- A frame starts with nothing counted (rule R122). -/
theorem inv_syncReset (s : State) : s.syncReset.Inv := by
  simp [State.Inv]

theorem inv_resetRegisters (s : State) : s.resetRegisters.Inv := by
  simp [State.Inv]

/-- Settles O26: the reset values, which `RESET` writes into every state. -/
theorem invariantHoldsAfterReset : Obligations.InvariantHoldsAfterReset := by
  refine ⟨inv_resetRegisters State.reset, fun s t hexec => ?_⟩
  rw [resetPutsEveryRegisterAtItsResetValue s] at hexec
  cases hexec
  exact inv_resetRegisters s

/-! ### A byte is full -/

/-- What holds after the append and the length latch, before the completion test: the bytes counted are
in the buffer, the length is the first byte's, and it is not passed. -/
def State.ByteTaken (u : State) : Prop :=
  u.bitCount = 0#3 ∧ u.buffer.length = u.byteCount.toNat ∧ 1 ≤ u.byteCount.toNat ∧
    u.declaredLength.toNat = (byteAt u.buffer 0).toNat + 3 ∧
    u.byteCount.toNat ≤ u.declaredLength.toNat

/-- The completion test over the values of the counters (rule R125). -/
theorem State.frameComplete_iff_toNat (u : State) :
    u.frameComplete = true ↔
      0 < u.declaredLength.toNat ∧ u.byteCount.toNat = u.declaredLength.toNat := by
  simp [State.frameComplete, BitVec.lt_def, ← BitVec.toNat_inj]

/-- The eighth bit of a SYNCED block: the first byte latches the length, a later one keeps it. -/
theorem State.Inv.byteTaken {s : State} (h : s.Inv) (hs : s.synced = true) :
    s.appendByte.latchLength.ByteTaken := by
  obtain ⟨-, hlength, hfirst, hlater, hcount, -⟩ := h
  have hlength := hlength hs
  have hsucc : (s.byteCount + 1#32).toNat = s.byteCount.toNat + 1 := by
    simp only [BitVec.toNat_add, BitVec.toNat_ofNat]
    omega
  refine ⟨rfl, ?_⟩
  by_cases hzero : s.byteCount = 0#32
  · obtain ⟨-, hnil⟩ := hfirst hs hzero
    have hsr := s.sr.isLt
    have hdeclared : (s.sr.setWidth 32 + BitVec.ofNat 32 Config.lenBias).toNat = s.sr.toNat + 3 := by
      simp only [BitVec.toNat_add, BitVec.toNat_setWidth, BitVec.toNat_ofNat, Config.lenBias]
      omega
    simp [hzero, hnil, Memory.append, hdeclared]
  · have hpos : 1 ≤ s.byteCount.toNat := by
      rw [← BitVec.toNat_inj, BitVec.toNat_ofNat] at hzero
      omega
    obtain ⟨hdeclared, hlt⟩ := hlater hs hpos
    have hnotFirst : s.byteCount + 1#32 ≠ 1#32 := by
      rw [ne_eq, ← BitVec.toNat_inj, hsucc, BitVec.toNat_ofNat]
      omega
    have hbyte : byteAt (s.buffer.append s.sr) 0 = byteAt s.buffer 0 :=
      byteAt_append_left (by omega)
    simp only [State.latchLength_buffer, State.latchLength_byteCount, State.latchLength_declaredLength,
      State.appendByte_buffer, State.appendByte_byteCount, State.appendByte_declaredLength,
      hnotFirst, ↓reduceIte, hsucc, hbyte, Memory.length_append]
    omega

/-- A byte that does not end its frame leaves the length ahead. -/
theorem State.ByteTaken.inv {u : State} (h : u.ByteTaken) (hs : u.synced = true)
    (hc : u.frameComplete = false) : u.Inv := by
  obtain ⟨hbits, hlength, hpos, hdeclared, hle⟩ := h
  have hfirst := (byteAt u.buffer 0).isLt
  have hnot := (u.frameComplete_iff_toNat.not).mp (by simp [hc])
  have hzero : u.byteCount ≠ 0#32 := by
    rw [ne_eq, ← BitVec.toNat_inj, BitVec.toNat_ofNat]
    omega
  exact ⟨fun hu => absurd (hs.symm.trans hu) (by simp), fun _ => hlength,
    fun _ h0 => absurd h0 hzero, fun _ _ => ⟨hdeclared, by omega⟩, by omega, by omega, by omega⟩

/-- A byte that ends its frame leaves the counters of an UNSYNCED block. -/
theorem State.ByteTaken.inv_endFrame {u : State} (h : u.ByteTaken) : u.endFrame.Inv := by
  obtain ⟨hbits, hlength, hpos, hdeclared, hle⟩ := h
  have hfirst := (byteAt u.buffer 0).isLt
  refine ⟨fun _ => ⟨hbits, rfl⟩, fun hs => absurd hs (by simp), fun hs => absurd hs (by simp),
    fun hs => absurd hs (by simp), by simp, ?_, ?_⟩
  · simp only [State.endFrame_declaredLength]; omega
  · simp only [State.endFrame_buffer]; omega

/-- The buffer that completes is as long as its first byte says (rule R132). -/
theorem State.ByteTaken.wellDelimited {u : State} (h : u.ByteTaken) (hc : u.frameComplete = true) :
    wellDelimited u.buffer := by
  obtain ⟨-, hlength, -, hdeclared, -⟩ := h
  have hfirst := (byteAt u.buffer 0).isLt
  obtain ⟨-, hcount⟩ := u.frameComplete_iff_toNat.mp hc
  refine ⟨?_, ?_, ?_⟩ <;> omega

/-! ### Every step -/

/-- A symbol keeps the invariant. -/
theorem inv_takeSymbol {s : State} (h : s.Inv) (sync d : Bool) : (takeSymbol sync d s).Inv := by
  rcases takeSymbol_cases sync d s with
    ⟨-, e⟩ | ⟨-, -, e⟩ | ⟨-, hs, -, e⟩ | ⟨-, hs, -, hc, e⟩ | ⟨-, hs, -, -, e⟩ <;> rw [e]
  · exact (inv_syncReset _).countBit rfl
  · exact h.shift d
  · exact (h.shift d).countBit hs
  · exact ((h.shift d).byteTaken hs).inv hs hc
  · exact (((h.shift d).byteTaken hs).inv_endFrame.emit _).report _

/-- Settles O25: by the input that the step takes. -/
theorem invariantKeptByEveryStep : Obligations.InvariantKeptByEveryStep := by
  intro s t hinv hstep
  rcases step_cases s with
    ⟨-, e⟩ | ⟨y, rest, -, e⟩ | ⟨rest, -, e⟩ | ⟨_, rest, -, e⟩ | ⟨_, rest, -, e⟩ <;>
    rw [e] at hstep <;> cases hstep
  · exact hinv
  · rcases offerSymbol_cases (symSync y) (symData y) (s.setInput rest) with ⟨-, h⟩ | ⟨-, h⟩ <;> rw [h]
    · exact hinv.setInput rest
    · exact inv_takeSymbol (hinv.setInput rest) _ _
  · exact (hinv.setInput rest).close
  · exact inv_resetRegisters _
  · exact (hinv.setInput rest).report _

/-! ### What is emitted -/

/-- Under the invariant a symbol puts out nothing, or a frame of the length its first byte declares with
the report of its decode. -/
theorem inv_takeSymbol_outputs {s : State} (h : s.Inv) (sync d : Bool) :
    ((takeSymbol sync d s).frames = s.frames ∧ (takeSymbol sync d s).reports = s.reports) ∨
      ∃ F, wellDelimited F ∧ (takeSymbol sync d s).frames = s.frames ++ [F] ∧
        (takeSymbol sync d s).reports = s.reports ++ [reportOf (decodeResult s.params F)] := by
  rcases takeSymbol_cases sync d s with
    ⟨-, e⟩ | ⟨-, -, e⟩ | ⟨-, -, -, e⟩ | ⟨-, -, -, -, e⟩ | ⟨-, hs, -, hc, e⟩ <;> rw [e]
  case inr.inr.inr.inr =>
    exact .inr ⟨_, ((h.shift d).byteTaken hs).wellDelimited hc, rfl, rfl⟩
  all_goals exact .inl ⟨rfl, rfl⟩

/-- Settles O27: of the inputs only a symbol emits. -/
theorem emittedFramesAreLengthDelimited : Obligations.EmittedFramesAreLengthDelimited := by
  intro s t hinv hframes hstep
  rcases step_cases s with ⟨-, e⟩ | ⟨y, rest, -, e⟩ | ⟨_, -, e⟩ | ⟨_, _, -, e⟩ | ⟨_, _, -, e⟩ <;>
    rw [e] at hstep <;> cases hstep
  case inr.inl =>
    rcases offerSymbol_cases (symSync y) (symData y) (s.setInput rest) with ⟨-, h⟩ | ⟨-, h⟩ <;> rw [h]
    · exact hframes
    · rcases inv_takeSymbol_outputs (hinv.setInput rest) (symSync y) (symData y) with
        ⟨hsame, -⟩ | ⟨F, hF, hadd, -⟩
      · rw [hsame]; exact hframes
      · intro G hG
        rw [hadd, List.mem_append, List.mem_singleton] at hG
        rcases hG with hG | rfl
        · exact hframes G hG
        · exact hF
  all_goals exact hframes

/-- A frame as long as its first byte declares passes the third check (rule R175). -/
theorem decodeResult_ne_payloadTooShort {p : Params} {F : List Byte} (hF : wellDelimited F) (L : Byte)
    (n : Nat) : decodeResult p F ≠ .error (.payloadTooShort L n) := by
  obtain ⟨hlength, -, -⟩ := hF
  rcases parseFrame_cases p F with ⟨-, e⟩ | ⟨-, -, e⟩ | ⟨-, -, hexceeds, -⟩ | ⟨-, -, -, e⟩
  case inr.inr.inl => omega
  all_goals simp [decodeResult, e, decodedRecord]

/-- Settles O28: the one report that a stream item can add is that of an emitted frame. -/
theorem noPayloadTooShortFromTheSynchronizer : Obligations.NoPayloadTooShortFromTheSynchronizer := by
  intro s t item rest hinv hinput hstep r hr L n
  match item with
  | .eos =>
    rw [step_eos hinput] at hstep
    cases hstep
    simp at hr
  | .symbol y =>
    rw [step_symbol hinput] at hstep
    cases hstep
    rcases offerSymbol_cases (symSync y) (symData y) (s.setInput rest) with ⟨-, h⟩ | ⟨-, h⟩ <;>
      rw [h] at hr
    · simp at hr
    · rcases inv_takeSymbol_outputs (hinv.setInput rest) (symSync y) (symData y) with
        ⟨-, hsame⟩ | ⟨F, hF, -, hadd⟩
      · simp [hsame] at hr
      · obtain rfl : r = reportOf (decodeResult s.params F) := by simpa [hadd] using hr
        exact decodeResult_ne_payloadTooShort hF L n

end Sys2Proof.Machine
end

section
/-!
The length of a frame (rule R132) and the round trip through the synchronizer (E1 of
`95_test_vectors.md`). A sync pulse is the bit it carries at a block whose frame was just cleared, so a
frame is the effect of its data bits alone, taken eight at a time; `assembled` is the block after whole
bytes.
-/

namespace Sys2Proof.Machine

/-! ### A symbol does not look at the input after it -/

/-- The byte that the eighth bit fills, and the completion test on the block that holds it. -/
theorem State.takeByte_eq (s : State) :
    s.takeByte =
      if s.appendByte.latchLength.frameComplete then
        (s.appendByte.latchLength.endFrame, some (s.buffer.append s.sr))
      else (s.appendByte.latchLength, none) := rfl

theorem State.takeByte_setInput (rest : List Input) (s : State) :
    (s.setInput rest).takeByte = (s.takeByte.1.setInput rest, s.takeByte.2) := by
  rw [takeByte_eq, takeByte_eq]
  change (if s.appendByte.latchLength.frameComplete then _ else _) = _
  split <;> rfl

theorem State.count_setInput (rest : List Input) (s : State) :
    (s.setInput rest).count = (s.count.1.setInput rest, s.count.2) := by
  unfold State.count
  rw [takeByte_setInput]
  change (if s.synced then if s.bitCount.toNat + 1 = 8 then _ else _ else _) = _
  split
  · split <;> rfl
  · rfl

theorem takeSymbol_setInput (sync d : Bool) (rest : List Input) (s : State) :
    takeSymbol sync d (s.setInput rest) = (takeSymbol sync d s).setInput rest := by
  have hstep : (s.setInput rest).syncStep sync d =
      ((s.syncStep sync d).1.setInput rest, (s.syncStep sync d).2) := by
    cases sync
    · exact State.count_setInput rest (s.shift d)
    · rfl
  unfold takeSymbol
  rw [hstep]
  rcases s.syncStep sync d with ⟨u, _ | F⟩
  · rfl
  · simp only [deliver_eq]
    rfl

/-! ### A frame as its data bits -/

/-- The effect of data bits without a sync pulse, in arrival order. -/
def takeBits (ds : List Bool) (s : State) : State := ds.foldl (fun s d => takeSymbol false d s) s

@[simp] theorem takeBits_nil (s : State) : takeBits [] s = s := rfl

theorem takeBits_cons (d : Bool) (ds : List Bool) (s : State) :
    takeBits (d :: ds) s = takeBits ds (takeSymbol false d s) := rfl

theorem takeBits_append (ds es : List Bool) (s : State) :
    takeBits (ds ++ es) s = takeBits es (takeBits ds s) := List.foldl_append

theorem takeBits_setInput (ds : List Bool) (rest : List Input) (s : State) :
    takeBits ds (s.setInput rest) = (takeBits ds s).setInput rest := by
  induction ds generalizing s with
  | nil => rfl
  | cons d ds ih => rw [takeBits_cons, takeSymbol_setInput, ih, takeBits_cons]

/-- The pulse clears the frame before its own bit is counted (rules R120, R122, R127). -/
theorem takeSymbol_sync_eq_bit (d : Bool) (s : State) :
    takeSymbol true d s = takeSymbol false d s.syncReset := rfl

/-- A run of an open block over symbols without a sync flag is the effect of their data bits. -/
theorem run_bits {ys : List Byte} {rest : List Input} {s : State} (hopen : s.closed = false)
    (hbits : ∀ y ∈ ys, symSync y = false) (hinput : s.input = symbolInputs ys ++ rest) {k : Nat}
    (hk : k ≤ ys.length) :
    run k s = .next ((takeBits ((ys.map symData).take k) s).setInput
      (symbolInputs (ys.drop k) ++ rest)) := by
  induction k generalizing ys s with
  | zero =>
    rw [List.take_zero, List.drop_zero, takeBits_nil, ← hinput]
    rfl
  | succ k ih =>
    match ys, hk with
    | y :: ys, hk =>
      obtain ⟨hy, hys⟩ := List.forall_mem_cons.mp hbits
      rw [run_symbol hopen hinput, hy, takeSymbol_setInput, ih (by simpa using hopen) hys rfl
        (Nat.le_of_succ_le_succ hk), takeBits_setInput, List.map_cons, List.take_succ_cons,
        takeBits_cons, List.drop_succ_cons]
      rfl

/-- A run of an open block over a pulse and bits is the effect of all the data bits on the block whose
frame is cleared. -/
theorem run_frame_bits {ys : List Byte} {rest : List Input} {s : State} (hopen : s.closed = false)
    (hsync : ys.map symSync = true :: List.replicate (ys.length - 1) false)
    (hinput : s.input = symbolInputs ys ++ rest) {k : Nat} (hpos : 0 < k) (hk : k ≤ ys.length) :
    run k s = .next ((takeBits ((ys.map symData).take k) s.syncReset).setInput
      (symbolInputs (ys.drop k) ++ rest)) := by
  match ys, k, hpos, hk with
  | y :: ys, k + 1, _, hk =>
    obtain ⟨hy, hflags⟩ : symSync y = true ∧ ys.map symSync = List.replicate ys.length false := by
      simpa using hsync
    have hbits : ∀ z ∈ ys, symSync z = false := fun z hz =>
      List.eq_of_mem_replicate (hflags ▸ List.mem_map_of_mem hz)
    rw [run_symbol hopen hinput, hy, takeSymbol_setInput, run_bits (by simpa using hopen) hbits rfl
      (Nat.le_of_succ_le_succ hk), takeBits_setInput, takeSymbol_sync_eq_bit, List.map_cons,
      List.take_succ_cons, takeBits_cons, List.drop_succ_cons]
    rfl

/-! ### Nothing is put out before something is -/

/-- What was put out before some data bits stands before what is put out after them. -/
theorem takeBits_extends_outputs (ds : List Bool) (s : State) :
    s.frames <+: (takeBits ds s).frames ∧ s.reports <+: (takeBits ds s).reports := by
  induction ds generalizing s with
  | nil => exact ⟨⟨[], List.append_nil _⟩, ⟨[], List.append_nil _⟩⟩
  | cons d ds ih =>
    obtain ⟨hframes, hreports⟩ := ih (takeSymbol false d s)
    rcases takeSymbol_outputs false d s with ⟨hf, hr⟩ | ⟨F, hf, hr⟩
    · exact ⟨hf ▸ hframes, hr ▸ hreports⟩
    · exact ⟨.trans ⟨_, hf.symm⟩ hframes, .trans ⟨_, hr.symm⟩ hreports⟩

/-- If some data bits put nothing out, neither did the first of them. -/
theorem takeBits_quiet_of_append {ds es : List Bool} {s : State}
    (hframes : (takeBits (ds ++ es) s).frames = s.frames)
    (hreports : (takeBits (ds ++ es) s).reports = s.reports) :
    (takeBits ds s).frames = s.frames ∧ (takeBits ds s).reports = s.reports := by
  obtain ⟨hf, hr⟩ := takeBits_extends_outputs ds s
  obtain ⟨hf', hr'⟩ := takeBits_extends_outputs es (takeBits ds s)
  rw [← takeBits_append, hframes] at hf'
  rw [← takeBits_append, hreports] at hr'
  exact ⟨(hf.eq_of_length_le hf'.length_le).symm, (hr.eq_of_length_le hr'.length_le).symm⟩

/-! ### Eight bits make a byte -/

/-- The shift register after some data bits (rule R121). -/
def shiftBits (sr : Byte) (ds : List Bool) : Byte :=
  ds.foldl (fun sr d => (sr <<< 1) ||| (BitVec.ofBool d).setWidth 8) sr

theorem shiftBits_append_singleton (sr : Byte) (ds : List Bool) (d : Bool) :
    shiftBits sr (ds ++ [d]) = (shiftBits sr ds <<< 1) ||| (BitVec.ofBool d).setWidth 8 := by
  simp [shiftBits]

/-- The bits of a byte push everything older out of the shift register (rule R51). -/
theorem shiftBits_bitsOf (sr b : Byte) : shiftBits sr (bitsOf b) = b := by
  apply BitVec.eq_of_getLsbD_eq
  intro i hi
  interval_cases i <;> simp [shiftBits, bitsOf]

/-- At a byte boundary of a SYNCED block, fewer than eight bits are shifted in and counted. -/
theorem takeBits_partial {s : State} (hs : s.synced = true) (hb : s.bitCount = 0#3) {ds : List Bool}
    (hlt : ds.length < 8) :
    takeBits ds s = { s with sr := shiftBits s.sr ds, bitCount := BitVec.ofNat 3 ds.length } := by
  induction ds using List.reverseRecOn with
  | nil => rw [List.length_nil, ← hb]; rfl
  | append_singleton ds d ih =>
    rw [List.length_append, List.length_singleton] at hlt
    have hfull : BitVec.ofNat 3 ds.length ≠ 7#3 := by
      rw [ne_eq, ← BitVec.toNat_inj, BitVec.toNat_ofNat, BitVec.toNat_ofNat]
      omega
    have hcount := takeSymbol_of_not_full (s := { s with
      sr := shiftBits s.sr ds, bitCount := BitVec.ofNat 3 ds.length }) hs hfull false d
    rw [takeBits_append, ih (by omega), takeBits_cons, takeBits_nil, hcount,
      shiftBits_append_singleton, List.length_append, List.length_singleton, BitVec.ofNat_add]
    rfl

/-- What the append of the full byte in `sr` comes to: the byte joins the frame, or ends it and the
frame is put out with the report of its decode (rules R123 to R125). -/
def State.finishByte (s : State) : State :=
  if s.appendByte.latchLength.frameComplete then
    (s.appendByte.latchLength.endFrame.emit (s.buffer.append s.sr)).report
      (decodeResult s.params (s.buffer.append s.sr))
  else s.appendByte.latchLength

theorem takeSymbol_of_full {s : State} (hs : s.synced = true) (hb : s.bitCount = 7#3) (d : Bool) :
    takeSymbol false d s = (s.shift d).finishByte := by
  rcases takeSymbol_cases false d s with
    ⟨h, -⟩ | ⟨-, h, -⟩ | ⟨-, -, h, -⟩ | ⟨-, -, -, hc, h⟩ | ⟨-, -, -, hc, h⟩
  · cases h
  · rw [hs] at h
    cases h
  · exact absurd hb h
  · rw [h, State.finishByte, if_neg (by simp [hc])]
  · rw [h, State.finishByte, if_pos hc]
    rfl

/-- Eight bits at a byte boundary append the byte that they form. -/
theorem takeBits_bitsOf {s : State} (hs : s.synced = true) (hb : s.bitCount = 0#3) (b : Byte) :
    takeBits (bitsOf b) s = ({ s with sr := b } : State).finishByte := by
  obtain ⟨ds, d, hds, hlength⟩ : ∃ ds d, bitsOf b = ds ++ [d] ∧ ds.length = 7 :=
    ⟨(bitsOf b).take 7, b.getLsbD 0, rfl, rfl⟩
  have hsr : (shiftBits s.sr ds <<< 1) ||| (BitVec.ofBool d).setWidth 8 = b := by
    rw [← shiftBits_append_singleton, ← hds, shiftBits_bitsOf]
  have hseven : ({ s with sr := shiftBits s.sr ds, bitCount := 7#3 } : State).shift d =
      { s with sr := b, bitCount := 7#3 } := by
    rw [← hsr]
    rfl
  rw [hds, takeBits_append, takeBits_partial hs hb (by omega), hlength, takeBits_cons, takeBits_nil,
    takeSymbol_of_full (s := { s with sr := shiftBits s.sr ds, bitCount := 7#3 }) hs rfl, hseven]
  rfl

/-! ### The block after whole bytes -/

/-- The block after the bytes `P` of a frame that is not complete, from a block that a pulse cleared. -/
def State.assembled (P : List Byte) (s : State) : State :=
  { s with
    sr := P.getLastD s.sr, synced := true, bitCount := 0#3, byteCount := BitVec.ofNat 32 P.length
    declaredLength := if P = [] then 0#32 else BitVec.ofNat 32 ((byteAt P 0).toNat + 3)
    buffer := P }

/-- One more byte is appended, and the first one's length is latched, with the counters in their
range. -/
theorem State.assembled_latchLength (P : List Byte) (b : Byte) (s : State) (hP : P.length < 258) :
    ({ s.assembled P with sr := b } : State).appendByte.latchLength = s.assembled (P ++ [b]) := by
  have hcount : BitVec.ofNat 32 P.length + 1#32 = BitVec.ofNat 32 (P ++ [b]).length := by
    rw [List.length_append, List.length_singleton, BitVec.ofNat_add]
  have hlatch : (if BitVec.ofNat 32 P.length + 1#32 = 1#32 then
        b.setWidth 32 + BitVec.ofNat 32 Config.lenBias
      else if P = [] then 0#32 else BitVec.ofNat 32 ((byteAt P 0).toNat + 3)) =
      if P ++ [b] = [] then 0#32 else BitVec.ofNat 32 ((byteAt (P ++ [b]) 0).toNat + 3) := by
    cases P with
    | nil => simp [Config.lenBias, BitVec.ofNat_add]
    | cons a P =>
      have hnotFirst : BitVec.ofNat 32 (a :: P).length + 1#32 ≠ 1#32 := by
        rw [List.length_cons] at hP ⊢
        bv_omega
      rw [if_neg hnotFirst]
      simp
  unfold State.assembled
  rw [← hlatch, ← hcount, List.getLastD_concat]
  rfl

/-- The counters of the block count right, so the completion test compares lengths (rule R125). -/
theorem State.assembled_frameComplete_iff {P : List Byte} (s : State) (hnil : P ≠ [])
    (hP : P.length ≤ 258) :
    (s.assembled P).frameComplete = true ↔ P.length = (byteAt P 0).toNat + 3 := by
  have hfirst := (byteAt P 0).isLt
  have hdeclared : (s.assembled P).declaredLength = BitVec.ofNat 32 ((byteAt P 0).toNat + 3) :=
    if_neg hnil
  have hcount : (s.assembled P).byteCount = BitVec.ofNat 32 P.length := rfl
  rw [State.frameComplete_iff_toNat, hdeclared, hcount, BitVec.toNat_ofNat, BitVec.toNat_ofNat]
  omega

/-- Eight more bits at a block that holds the bytes `P`. -/
theorem takeBits_bitsOf_assembled (P : List Byte) (b : Byte) (s : State) (hP : P.length < 258) :
    takeBits (bitsOf b) (s.assembled P) =
      if (s.assembled (P ++ [b])).frameComplete then
        ((s.assembled (P ++ [b])).endFrame.emit (P ++ [b])).report (decodeResult s.params (P ++ [b]))
      else s.assembled (P ++ [b]) := by
  rw [takeBits_bitsOf rfl rfl, State.finishByte, State.assembled_latchLength P b s hP]
  rfl

theorem dataBits_append_singleton (P : List Byte) (b : Byte) :
    dataBits (P ++ [b]) = dataBits P ++ bitsOf b := by
  simp [dataBits]

@[simp] theorem dataBits_length (F : List Byte) : (dataBits F).length = 8 * F.length := by
  induction F using List.reverseRecOn with
  | nil => rfl
  | append_singleton P b ih =>
    rw [dataBits_append_singleton, List.length_append, ih, List.length_append]
    change 8 * P.length + 8 = _
    rw [List.length_singleton]
    omega

/-- A frame that is shorter than its length still is without its last byte, and stays below 258
bytes. -/
theorem length_lt_of_append_singleton {P : List Byte} {b : Byte}
    (h : (P ++ [b]).length ≤ (byteAt (P ++ [b]) 0).toNat + 3) :
    P.length < (byteAt P 0).toNat + 3 ∧ P.length < 258 := by
  have hfirst := (byteAt (P ++ [b]) 0).isLt
  rw [List.length_append, List.length_singleton] at h
  cases P with
  | nil => simp
  | cons a P =>
    rw [byteAt_append_left (by simp)] at h hfirst
    omega

/-- The bits of fewer bytes than the first one declares only assemble them. -/
theorem takeBits_dataBits {P : List Byte} (s : State) (h : P.length < (byteAt P 0).toNat + 3) :
    takeBits (dataBits P) s.syncReset = s.assembled P := by
  induction P using List.reverseRecOn with
  | nil => rfl
  | append_singleton P b ih =>
    obtain ⟨hlt, h258⟩ := length_lt_of_append_singleton h.le
    have hincomplete : ¬ (s.assembled (P ++ [b])).frameComplete = true := by
      rw [s.assembled_frameComplete_iff (by simp) (by simpa using h258)]
      omega
    rw [dataBits_append_singleton, takeBits_append, ih hlt, takeBits_bitsOf_assembled P b s h258,
      if_neg hincomplete]

/-- The bits of as many bytes as the first one declares put them out as a frame (rule R132). -/
theorem takeBits_dataBits_complete {F : List Byte} (s : State) (hnil : F ≠ [])
    (h : F.length = (byteAt F 0).toNat + 3) :
    takeBits (dataBits F) s.syncReset =
      ((s.assembled F).endFrame.emit F).report (decodeResult s.params F) := by
  obtain ⟨P, b, rfl⟩ := (List.eq_nil_or_concat' F).resolve_left hnil
  obtain ⟨hlt, h258⟩ := length_lt_of_append_singleton h.le
  have hcomplete : (s.assembled (P ++ [b])).frameComplete = true :=
    (s.assembled_frameComplete_iff (by simp) (by simpa using h258)).mpr h
  rw [dataBits_append_singleton, takeBits_append, takeBits_dataBits s hlt,
    takeBits_bitsOf_assembled P b s h258, if_pos hcomplete]

/-- Fewer bits than that put nothing out: all but the last bit are whole bytes and seven more. -/
theorem takeBits_dataBits_quiet {F : List Byte} (s : State) (hnil : F ≠ [])
    (h : F.length = (byteAt F 0).toNat + 3) {k : Nat} (hk : k < 8 * F.length) :
    (takeBits ((dataBits F).take k) s.syncReset).frames = s.frames ∧
      (takeBits ((dataBits F).take k) s.syncReset).reports = s.reports := by
  obtain ⟨P, b, rfl⟩ := (List.eq_nil_or_concat' F).resolve_left hnil
  obtain ⟨hlt, -⟩ := length_lt_of_append_singleton h.le
  have hbits : dataBits (P ++ [b]) = (dataBits P ++ (bitsOf b).take 7) ++ [b.getLsbD 0] := by
    rw [dataBits_append_singleton, List.append_assoc]
    rfl
  have hlength : (dataBits P ++ (bitsOf b).take 7).length = 8 * P.length + 7 := by
    rw [List.length_append, dataBits_length]
    rfl
  have hquiet : (takeBits (dataBits P ++ (bitsOf b).take 7) s.syncReset).frames = s.frames ∧
      (takeBits (dataBits P ++ (bitsOf b).take 7) s.syncReset).reports = s.reports := by
    rw [takeBits_append, takeBits_dataBits s hlt, takeBits_partial rfl rfl (by simp [bitsOf])]
    exact ⟨rfl, rfl⟩
  rw [List.length_append, List.length_singleton] at hk
  rw [hbits, List.take_append_of_le_length (by omega)]
  rw [← List.take_append_drop k (dataBits P ++ (bitsOf b).take 7)] at hquiet
  exact takeBits_quiet_of_append (s := s.syncReset) hquiet.1 hquiet.2

/-- Settles O19: the run is the effect of the data bits of the frame, quiet up to the last one. -/
theorem frameCompletesExactlyAtItsLength : Obligations.FrameCompletesExactlyAtItsLength := by
  intro s ys F rest hopen hnil hF ⟨hdata, hsync⟩ hinput
  have hlength : ys.length = 8 * F.length := by
    simpa using congrArg List.length hdata
  have hpos : 0 < ys.length := by
    have := List.length_pos_of_ne_nil hnil
    omega
  have hrun {k : Nat} (hk0 : 0 < k) (hk : k ≤ ys.length) :
      run k s = .next ((takeBits ((dataBits F).take k) s.syncReset).setInput
        (symbolInputs (ys.drop k) ++ rest)) := by
    rw [run_frame_bits hopen hsync hinput hk0 hk, hdata]
  refine ⟨hlength, fun k hk => ?quiet, ?complete⟩
  case quiet =>
    cases k with
    | zero => exact ⟨s, rfl, rfl, rfl⟩
    | succ k =>
      obtain ⟨hframes, hreports⟩ := takeBits_dataBits_quiet s hnil hF (hlength ▸ hk)
      exact ⟨_, hrun k.succ_pos hk.le, hframes, hreports⟩
  case complete =>
    have hall : (dataBits F).take ys.length = dataBits F :=
      List.take_of_length_le (by rw [dataBits_length, hlength])
    have hdeclared : (s.assembled F).declaredLength.toNat = F.length := by
      have hfirst := (byteAt F 0).isLt
      simp only [State.assembled, if_neg hnil, BitVec.toNat_ofNat]
      omega
    refine ⟨_, hrun hpos le_rfl, ?_⟩
    rw [hall, takeBits_dataBits_complete s hnil hF, List.drop_length]
    exact ⟨rfl, rfl, rfl, rfl, rfl, rfl, rfl, hdeclared, hopen, rfl⟩

/-! ### The round trip -/

/-- The symbols of a frame carry its bits, with the pulse on the first. -/
theorem syms_carries {F : List Byte} (h : F ≠ []) : carries (syms F) F := by
  have hdata (s d : Bool) : symData (symbolByte 0#6 s d) = d := (symbolByte_fields 0#6 s d).2.1
  have hsync (s d : Bool) : symSync (symbolByte 0#6 s d) = s := (symbolByte_fields 0#6 s d).1
  unfold carries syms
  match hbits : dataBits F with
  | [] =>
    have := congrArg List.length hbits
    rw [dataBits_length, List.length_nil] at this
    exact absurd (List.eq_nil_of_length_eq_zero (by omega)) h
  | d :: ds =>
    refine ⟨?_, ?_⟩
    · simp [hdata, Function.comp_def]
    · simp [hsync, Function.comp_def, List.map_const']

/-- Settles O20: the frame that comes out of the synchronizer decodes to the instruction that was
encoded, so the two put out the same report. -/
theorem framesRoundTripThroughTheSynchronizer :
    Obligations.FramesRoundTripThroughTheSynchronizer := by
  intro s i t f rest hi hlen hopen hinput
  obtain rfl := eq_ofFrame_of_frame? hi
  have hlength := encodeFrame_length s.params t f
  have hnil : encodeFrame s.params t f ≠ [] := List.ne_nil_of_length_pos (by omega)
  have hF : (encodeFrame s.params t f).length =
      (byteAt (encodeFrame s.params t f) 0).toNat + 3 := by
    rw [byteAt_encodeFrame_zero]
    omega
  have hparse : parseFrame s.params (encodeFrame s.params t f) = .ok (t, f) :=
    parseFrame_encodeFrame s.params t ((fields_wellFormed_iff f).mpr (by omega))
  obtain ⟨hsteps, -, u, hrun, hframes, hreports, hrest, -⟩ :=
    frameCompletesExactlyAtItsLength s _ _ rest hopen hnil hF (syms_carries hnil) hinput
  rw [hsteps, hlength] at hrun
  refine ⟨u, _, hrun, exec_ofFrame t f s, ?_, hframes, hrest⟩
  rw [hreports, decodeResult_of_parseFrame hparse, State.report_reports]

end Sys2Proof.Machine
end

section
/-!
Runs over whatever the stream holds: an UNSYNCED block without a pulse (rule R134), a closed block
(rule R128, decision D20), and two blocks that no output tells apart (rule R37).
-/

namespace Sys2Proof.Machine

/-! ### A stream without a sync pulse -/

/-- A bit while UNSYNCED is shifted in, and that is all (rule R126). -/
theorem takeSymbol_of_unsynced {s : State} (hs : s.synced = false) (d : Bool) :
    takeSymbol false d s = s.shift d := by
  rcases takeSymbol_cases false d s with ⟨h, -⟩ | ⟨-, -, h⟩ | ⟨-, h, -⟩ | ⟨-, h, -⟩ | ⟨-, h, -⟩
  case inr.inl => exact h
  case inl => cases h
  all_goals
    rw [hs] at h
    cases h

/-- A stream item that is no pulse, at an UNSYNCED block: only `sr` and `closed` can change, the latter
by an `EOS`. -/
theorem step_unsynced {s : State} {item : StreamItem} {rest : List Input} (hs : s.synced = false)
    (hinput : s.input = .stream item :: rest) (hitem : ∀ y, item = .symbol y → y.getLsbD 1 = false) :
    ∃ sr, step s =
      .next { s with sr := sr, closed := s.closed || decide (item = .eos), input := rest } := by
  match item with
  | .eos =>
    refine ⟨s.sr, ?_⟩
    rw [step_eos hinput, decide_eq_true rfl, Bool.or_true]
    rfl
  | .symbol y =>
    have hbit : symSync y = false := hitem y rfl
    rw [step_symbol hinput, hbit, decide_eq_false (by simp), Bool.or_false]
    rcases offerSymbol_cases false (symData y) (s.setInput rest) with ⟨-, h⟩ | ⟨-, h⟩
    · exact ⟨s.sr, by rw [h]; rfl⟩
    · have hshift := takeSymbol_of_unsynced (s := s.setInput rest) hs (symData y)
      exact ⟨((s.setInput rest).shift (symData y)).sr, by rw [h, hshift]; rfl⟩

/-- Settles O23: by induction on the steps; a block that waits changes nothing. -/
theorem noSyncPulseNoFrame : Obligations.NoSyncPulseNoFrame := by
  intro s t k hs hinputs hrun
  induction k generalizing s with
  | zero => cases hrun; simp
  | succ k ih =>
    cases hinput : s.input with
    | nil =>
      rw [waitingChangesNothing s _ hinput] at hrun
      cases hrun
      exact ⟨by rw [List.drop_nil, ← hinput], by simp⟩
    | cons x rest =>
      rw [hinput] at hinputs
      obtain ⟨⟨item, rfl, hitem⟩, hrest⟩ := List.forall_mem_cons.mp hinputs
      obtain ⟨sr, hstep⟩ := step_unsynced hs hinput hitem
      rw [run_succ_of_step hstep] at hrun
      obtain ⟨ht, hclosed⟩ := ih _ (by exact hs) (by exact hrest) hrun
      have heos : Input.stream .eos ∈ (Input.stream item :: rest).take (k + 1) ↔
          item = .eos ∨ Input.stream .eos ∈ rest.take k := by
        rw [List.take_succ_cons, List.mem_cons, Input.stream.injEq, eq_comm]
      refine ⟨ht, hclosed.trans ?_⟩
      rw [heos, Bool.or_eq_true, decide_eq_true_eq, or_assoc]

/-! ### A closed block -/

/-- A closed block uses up what the stream offers (log entry 6). -/
theorem step_of_closed {s : State} {item : StreamItem} {rest : List Input} (hs : s.closed = true)
    (hinput : s.input = .stream item :: rest) : step s = .next (s.setInput rest) := by
  match item with
  | .eos => rw [step_eos hinput, close_of_closed (s := s.setInput rest) hs]
  | .symbol y => rw [step_symbol hinput, offerSymbol_of_closed (s := s.setInput rest) hs]

/-- Settles O24: by induction on the steps; a block that waits changes nothing. -/
theorem nothingAfterEndOfStream : Obligations.NothingAfterEndOfStream := by
  intro s t k hs hinputs hrun
  induction k generalizing s with
  | zero => cases hrun; rfl
  | succ k ih =>
    cases hinput : s.input with
    | nil =>
      rw [waitingChangesNothing s _ hinput] at hrun
      cases hrun
      rw [List.drop_nil, ← hinput]
    | cons x rest =>
      rw [hinput] at hinputs
      obtain ⟨⟨item, rfl⟩, hrest⟩ := List.forall_mem_cons.mp hinputs
      rw [run_succ_of_step (step_of_closed hs hinput)] at hrun
      exact ih _ (by exact hs) (by exact hrest) hrun

/-! ### Blocks that no output tells apart -/

/-- What is left of a block when the shift register and the frame under assembly are forgotten. -/
def State.forgetFrame (s : State) : State :=
  { s with sr := 0#8, bitCount := 0#3, byteCount := 0#32, declaredLength := 0#32, buffer := [] }

/-- Two blocks that agree in all else, and whose frames under assembly do not matter: there is none, or
the block takes no symbol, or the symbols to come make the blocks equal. -/
def Indistinct (s s' : State) : Prop :=
  s.forgetFrame = s'.forgetFrame ∧
    (s.synced = false ∨ s.closed = true ∨ ∃ m, ConvergeIn m s s')

/-- The outputs, the modes, the parameters and the input are not forgotten. -/
theorem forgetFrame_eq_iff {s s' : State} :
    s.forgetFrame = s'.forgetFrame ↔
      s.synced = s'.synced ∧ s.closed = s'.closed ∧ s.params = s'.params ∧ s.input = s'.input ∧
        s.frames = s'.frames ∧ s.reports = s'.reports := by
  simp [State.forgetFrame]

/-- Converging blocks differ in `sr` only. -/
theorem ConvergeIn.indistinct {m : Nat} {s s' : State} (h : ConvergeIn m s s') :
    Indistinct s s' := by
  have hforget : (s.dropOldest m).forgetFrame = (s'.dropOldest m).forgetFrame :=
    congrArg State.forgetFrame h.1
  exact ⟨hforget, .inr (.inr ⟨m, h⟩)⟩

/-- Equal blocks converge at once. -/
theorem indistinct_of_eq {s s' : State} (h : s = s') : Indistinct s s' :=
  ConvergeIn.indistinct (m := 0) ⟨congrArg _ h, .inl rfl⟩

theorem Indistinct.setInput {s s' : State} (h : Indistinct s s') (rest : List Input) :
    Indistinct (s.setInput rest) (s'.setInput rest) := by
  obtain ⟨heq, hidle⟩ := h
  exact ⟨congrArg (State.setInput rest) heq,
    hidle.imp_right (Or.imp_right fun ⟨m, hm⟩ => ⟨m, hm.setInput rest⟩)⟩

theorem Indistinct.report {s s' : State} (h : Indistinct s s') (r : DecodeResult) :
    Indistinct (s.report r) (s'.report r) := by
  obtain ⟨heq, hidle⟩ := h
  exact ⟨congrArg (State.report r) heq,
    hidle.imp_right (Or.imp_right fun ⟨m, hm⟩ => ⟨m, congrArg (State.report r) hm.1, hm.2⟩)⟩

theorem Indistinct.close {s s' : State} (h : Indistinct s s') : Indistinct s.close s'.close :=
  ⟨congrArg State.close h.1, .inr (.inl rfl)⟩

/-- A symbol at two open blocks: the pulse makes UNSYNCED blocks converge, a bit leaves them UNSYNCED. -/
theorem Indistinct.takeSymbol {s s' : State} (h : Indistinct s s') (hopen : s.closed = false)
    (sync d : Bool) : Indistinct (takeSymbol sync d s) (takeSymbol sync d s') := by
  obtain ⟨heq, hs | hclosed | ⟨m, hm⟩⟩ := h
  · obtain ⟨hsynced, hclosed, hparams, hinput, hframes, hreports⟩ := forgetFrame_eq_iff.mp heq
    cases sync with
    | true =>
      exact (convergeIn_takeSymbol_sync hopen (hclosed ▸ hopen) hparams hinput hframes hreports
        d).indistinct
    | false =>
      rw [takeSymbol_of_unsynced hs, takeSymbol_of_unsynced (hsynced ▸ hs)]
      exact ⟨heq, .inl hs⟩
  · rw [hopen] at hclosed
    cases hclosed
  · cases m with
    | zero => exact indistinct_of_eq (congrArg _ (by simpa using hm.1))
    | succ m => exact (hm.takeSymbol sync d).indistinct

theorem Indistinct.offerSymbol {s s' : State} (h : Indistinct s s') (sync d : Bool) :
    Indistinct (offerSymbol sync d s) (offerSymbol sync d s') := by
  obtain ⟨-, hclosed, -⟩ := forgetFrame_eq_iff.mp h.1
  cases hs : s.closed with
  | true => rwa [offerSymbol_of_closed hs, offerSymbol_of_closed (hclosed ▸ hs)]
  | false =>
    rw [offerSymbol_of_open hs, offerSymbol_of_open (hclosed ▸ hs)]
    exact h.takeSymbol hs sync d

/-- One step keeps two blocks indistinct, whatever the input. -/
theorem Indistinct.step {s s' : State} (h : Indistinct s s') :
    ∃ t t', step s = .next t ∧ step s' = .next t' ∧ Indistinct t t' := by
  obtain ⟨-, -, hparams, hinput, -, -⟩ := forgetFrame_eq_iff.mp h.1
  rcases step_cases s with
    ⟨hx, e⟩ | ⟨y, rest, hx, e⟩ | ⟨rest, hx, e⟩ | ⟨lost, rest, hx, e⟩ | ⟨F, rest, hx, e⟩ <;>
    rw [hinput] at hx
  · exact ⟨_, _, e, step_waiting hx, h⟩
  · exact ⟨_, _, e, step_symbol hx, (h.setInput rest).offerSymbol _ _⟩
  · exact ⟨_, _, e, step_eos hx, (h.setInput rest).close⟩
  · have hreset : (s.setInput rest).forgetFrame.resetRegisters =
        (s'.setInput rest).forgetFrame.resetRegisters :=
      congrArg State.resetRegisters (h.setInput rest).1
    exact ⟨_, _, e, step_reset hx, indistinct_of_eq hreset⟩
  · exact ⟨_, _, e, step_frame s' F rest hx, hparams ▸ (h.setInput rest).report _⟩

theorem Indistinct.run {s s' : State} (h : Indistinct s s') (k : Nat) :
    ∃ t t', run k s = .next t ∧ run k s' = .next t' ∧ Indistinct t t' := by
  induction k generalizing s s' with
  | zero => exact ⟨s, s', rfl, rfl, h⟩
  | succ k ih =>
    obtain ⟨u, u', hu, hu', hnext⟩ := h.step
    rw [run_succ_of_step hu, run_succ_of_step hu']
    exact ih hnext

/-- Settles O22: UNSYNCED blocks are indistinct, every run keeps them so, and the outputs are among what
indistinct blocks agree in. -/
theorem outputsDoNotDependOnIdleRegisters : Obligations.OutputsDoNotDependOnIdleRegisters := by
  intro s s' k hs hs' hclosed hparams hinput hframes hreports
  have hstart : Indistinct s s' :=
    ⟨forgetFrame_eq_iff.mpr ⟨hs.trans hs'.symm, hclosed, hparams, hinput, hframes, hreports⟩, .inl hs⟩
  obtain ⟨t, t', ht, ht', hend⟩ := hstart.run k
  obtain ⟨hsynced, hclosed, -, -, hframes, hreports⟩ := forgetFrame_eq_iff.mp hend.1
  exact ⟨t, t', ht, ht', hframes, hreports, hsynced, hclosed⟩

end Sys2Proof.Machine
end

section
/-!
What the CRC check catches (rules R154 to R156). The check of the trailer is residue zero over the whole
frame; two frames that pass it therefore differ by a multiple of the generator, and no multiple of the
generator but zero fits into 16 consecutive bits.
-/

namespace Sys2Proof.Machine

/-! ### The register a byte at a time -/

/-- A byte is taken by the exclusive-or of register and byte only. -/
theorem crcByte_congr {c c' : Word16} {b b' : Byte}
    (h : c ^^^ (b.setWidth 16 <<< 8) = c' ^^^ (b'.setWidth 16 <<< 8)) : crcByte c b = crcByte c' b' := by
  rw [crcByte, h, ← crcByte]

/-- For each byte, taking it loses nothing of the register. -/
theorem crcByte_left_injective {c c' : Word16} {b : Byte} (h : crcByte c b = crcByte c' b) : c = c' := by
  unfold crcByte at h
  iterate 8 replace h := crcShift_injective h
  exact (BitVec.xor_left_inj _).mp h

/-- Eight shifts move the low half up and shift none of it out. -/
theorem crcByte_lowHalf (x : Byte) : crcByte (x.setWidth 16) 0#8 = x.setWidth 16 <<< 8 := by
  revert x
  decide +kernel

/-- The step of the table form (rule R156): the high half and the byte select the entry. -/
theorem crcByte_eq_table (c : Word16) (b : Byte) :
    crcByte c b = (c <<< 8) ^^^ crcByte 0#16 ((c >>> 8).setWidth 8 ^^^ b) := by
  have hsplit : c ^^^ (b.setWidth 16 <<< 8) =
      ((c.setWidth 8).setWidth 16 ^^^ 0#16) ^^^
        ((0#8 ^^^ ((c >>> 8).setWidth 8 ^^^ b)).setWidth 16 <<< 8) := by
    apply BitVec.eq_of_getLsbD_eq
    intro i hi
    interval_cases i <;> simp
  have hlow : (c.setWidth 8).setWidth 16 <<< 8 = c <<< 8 := by
    apply BitVec.eq_of_getLsbD_eq
    intro i hi
    interval_cases i <;> simp
  rw [crcByte_congr hsplit, crcByte_xor, crcByte_lowHalf, hlow]

theorem crc16_append (M N : List Byte) : crc16 (M ++ N) = N.foldl crcByte (crc16 M) :=
  List.foldl_append

theorem crc16_singleton (b : Byte) : crc16 [b] = crcByte 0#16 b := rfl

theorem crcByte_zero_zero : crcByte 0#16 0#8 = 0#16 := by decide

/-- Settles O34: both forms fold equal steps. -/
theorem crcTableFormAgrees : Obligations.CrcTableFormAgrees := by
  refine ⟨fun M => ?fold, ?zero, ?one, ?two, ?ones⟩
  case fold =>
    have hstep : crcByte = fun (crc : Word16) (b : Byte) =>
        (crc <<< 8) ^^^ crc16 [(crc >>> 8).setWidth 8 ^^^ b] := by
      funext crc b
      rw [crcByte_eq_table, crc16_singleton]
    rw [crc16, ← hstep]
    rfl
  all_goals decide

/-! ### The check is residue zero -/

/-- A trailer brings the register to zero exactly if it is the register's own (rule R154). -/
theorem foldl_crcTrailer_eq_zero_iff {c r : Word16} :
    (crcTrailer r).foldl crcByte c = 0#16 ↔ c = r := by
  have hown : (crcTrailer r).foldl crcByte r = 0#16 := by
    have hhigh : (r >>> 8).setWidth 8 ^^^ r.extractLsb' 8 8 = 0#8 := by
      apply BitVec.eq_of_getLsbD_eq
      intro i hi
      interval_cases i <;> simp
    have hlow : (r <<< 8 >>> 8).setWidth 8 ^^^ r.extractLsb' 0 8 = 0#8 := by
      apply BitVec.eq_of_getLsbD_eq
      intro i hi
      interval_cases i <;> simp
    have hout : r <<< 8 <<< 8 = 0#16 := by
      rw [← BitVec.shiftLeft_add, BitVec.shiftLeft_eq_zero (by decide)]
    simp only [crcTrailer, List.foldl_cons, List.foldl_nil]
    rw [crcByte_eq_table r, hhigh, crcByte_zero_zero, BitVec.xor_zero, crcByte_eq_table, hlow,
      crcByte_zero_zero, hout, BitVec.xor_zero]
  constructor
  · intro h
    rw [← hown] at h
    simp only [crcTrailer, List.foldl_cons, List.foldl_nil] at h
    exact crcByte_left_injective (crcByte_left_injective h)
  · rintro rfl
    exact hown

/-- The check of rule R173 is residue zero over the whole frame. -/
theorem crcPasses_iff_residue {F : List Byte} (h : 2 ≤ F.length) :
    crc16 (F.take (F.length - 2)) = be16 F (F.length - 2) ↔ crc16 F = 0#16 := by
  have hF : crc16 F =
      (crcTrailer (be16 F (F.length - 2))).foldl crcByte (crc16 (F.take (F.length - 2))) := by
    rw [crcTrailer_be16 (by omega), ← crc16_append, List.take_append_drop]
  rw [hF, foldl_crcTrailer_eq_zero_iff]

/-- Settles O35: the check on the words is the check on their values. -/
theorem crcCheckIsResidueZero : Obligations.CrcCheckIsResidueZero := by
  intro F h
  rw [← eq_be16_iff h, crcPasses_iff_residue h]

/-- Zero bytes leave a register of zero at zero. -/
theorem crc16_replicate_zero (n : Nat) : crc16 (List.replicate n 0x00#8) = 0#16 := by
  induction n with
  | zero => rfl
  | succ n ih => rw [List.replicate_succ', crc16_append_singleton, ih, crcByte_zero_zero]

/-- Settles O38: the register is zero before the first byte that is not, and zero bytes leave residue
zero. -/
theorem leadingZerosAreNotProtected : Obligations.LeadingZerosAreNotProtected := by
  refine ⟨fun M => ?leading, fun n hn => ?zeros⟩
  case leading =>
    have hzero : crc16 [0x00#8] = 0#16 := crcByte_zero_zero
    rw [← List.singleton_append, crc16_append, hzero]
    rfl
  case zeros =>
    have hpasses := crcPasses_iff_residue (F := List.replicate n 0x00#8) (by simpa using hn)
    rw [List.length_replicate] at hpasses
    exact hpasses.mpr (crc16_replicate_zero n)

/-! ### Messages as polynomials -/

open Polynomial

/-- The coefficients of a bit sequence: the last bit is the constant term. -/
theorem bitsPoly_coeff (bs : List Bool) (j : Nat) :
    (bitsPoly bs).coeff j =
      if j < bs.length then if bs.getD (bs.length - 1 - j) false then 1 else 0 else 0 := by
  have hreflect : bitsPoly bs = ∑ i ∈ Finset.range bs.length,
      C (if bs.getD (bs.length - 1 - i) false then 1 else 0) * X ^ i := by
    rw [bitsPoly, ← Finset.sum_range_reflect]
    refine Finset.sum_congr rfl fun i hi => ?_
    have hlt := Finset.mem_range.mp hi
    rw [show bs.length - 1 - (bs.length - 1 - i) = i by omega]
    split <;> simp
  rw [hreflect, finsetSum_coeff]
  simp only [coeff_C_mul_X_pow, Finset.sum_ite_eq, Finset.mem_range]

/-- Bit sequences of one length agree at a power if they agree at its bit. -/
theorem bitsPoly_coeff_congr {bs cs : List Bool} (hlength : cs.length = bs.length) {j : Nat}
    (h : j < bs.length → cs[bs.length - 1 - j]? = bs[bs.length - 1 - j]?) :
    (bitsPoly cs).coeff j = (bitsPoly bs).coeff j := by
  rw [bitsPoly_coeff, bitsPoly_coeff, hlength]
  split
  next hj => rw [List.getD_eq_getElem?_getD, List.getD_eq_getElem?_getD, h hj]
  next => rfl

/-- A bit sequence is read off its polynomial. -/
theorem bitsPoly_injective {bs cs : List Bool} (hlength : cs.length = bs.length)
    (h : bitsPoly cs = bitsPoly bs) : cs = bs := by
  refine List.ext_getElem hlength fun i hi hi' => ?_
  have hcoeff := congrArg (fun p => p.coeff (bs.length - 1 - i)) h
  simp only [bitsPoly_coeff, hlength, show bs.length - 1 - i < bs.length by omega, if_true,
    show bs.length - 1 - (bs.length - 1 - i) = i by omega, List.getD_eq_getElem _ _ hi,
    List.getD_eq_getElem _ _ hi'] at hcoeff
  cases hc : cs[i] <;> cases hb : bs[i] <;> simp [hc, hb] at hcoeff ⊢

theorem bitsOf_injective {b b' : Byte} (h : bitsOf b = bitsOf b') : b = b' := by
  rw [← shiftBits_bitsOf 0#8 b, h, shiftBits_bitsOf]

/-- A byte sequence is read off its bits. -/
theorem dataBits_injective {F F' : List Byte} (h : dataBits F = dataBits F') : F = F' := by
  have hlength := congrArg List.length h
  rw [dataBits_length, dataBits_length] at hlength
  induction F generalizing F' with
  | nil => exact (List.eq_nil_of_length_eq_zero (by simpa using hlength.symm)).symm
  | cons b F ih =>
    match F', hlength with
    | b' :: F', hlength =>
      obtain ⟨hb, hF⟩ := List.append_inj (h : bitsOf b ++ dataBits F = bitsOf b' ++ dataBits F') rfl
      simp only [List.length_cons] at hlength
      rw [bitsOf_injective hb, ih hF (by omega)]

/-! ### Multiples of the generator -/

/-- The generator has a constant term, so it shares no factor with a power of `X`. -/
theorem isCoprime_crcGenerator_X_pow (m : Nat) : IsCoprime crcGenerator ((X : (ZMod 2)[X]) ^ m) := by
  refine IsCoprime.pow_right ⟨1, -(X ^ 15 + X ^ 11 + X ^ 4), ?_⟩
  rw [crcGenerator]
  ring

/-- A message of residue zero is a multiple of the generator. -/
theorem crcGenerator_dvd_bitsPoly {F : List Byte} (h : crc16 F = 0#16) :
    crcGenerator ∣ bitsPoly (dataBits F) := by
  have hclass := crcResidue_crc16 F
  rw [h, bitVecPoly_zero, map_zero] at hclass
  exact (isCoprime_crcGenerator_X_pow 16).dvd_of_dvd_mul_right (AdjoinRoot.mk_eq_zero.mp hclass)

/-- No multiple of the generator but zero has all its terms within 16 consecutive powers. -/
theorem eq_zero_of_crcGenerator_dvd {D : (ZMod 2)[X]} {low : Nat} (hdvd : crcGenerator ∣ D)
    (hwindow : ∀ j, j < low ∨ low + 16 ≤ j → D.coeff j = 0) : D = 0 := by
  obtain ⟨B, rfl⟩ : X ^ low ∣ D := X_pow_dvd_iff.mpr fun j hj => hwindow j (.inl hj)
  have hB : crcGenerator ∣ B := (isCoprime_crcGenerator_X_pow low).dvd_of_dvd_mul_left hdvd
  have hdegree : B.degree < crcGenerator.degree := by
    rw [crcGenerator_degree]
    refine (degree_lt_iff_coeff_zero B 16).mpr fun j hj => ?_
    rw [← coeff_X_pow_mul B low j]
    exact hwindow _ (.inr (by omega))
  rw [eq_zero_of_dvd_of_degree_lt hB hdegree, mul_zero]

/-! ### What fails the check -/

/-- Settles O37: the difference of two frames that pass is a multiple of the generator, and one within
16 consecutive bits is zero. -/
theorem everyShortBurstIsCaught : Obligations.EveryShortBurstIsCaught := by
  intro F F' k h2 hlength hne hagree hpasses hpasses'
  rw [crcPasses_iff_residue h2] at hpasses
  rw [crcPasses_iff_residue (hlength ▸ h2)] at hpasses'
  have hbits : (dataBits F').length = (dataBits F).length := by
    rw [dataBits_length, dataBits_length, hlength]
  have hdvd : crcGenerator ∣ bitsPoly (dataBits F') - bitsPoly (dataBits F) :=
    dvd_sub (crcGenerator_dvd_bitsPoly hpasses') (crcGenerator_dvd_bitsPoly hpasses)
  have hzero : bitsPoly (dataBits F') - bitsPoly (dataBits F) = 0 := by
    refine eq_zero_of_crcGenerator_dvd (low := (dataBits F).length - (k + 16)) hdvd fun j hj => ?_
    rw [coeff_sub, bitsPoly_coeff_congr hbits, sub_self]
    intro hlt
    exact hagree _ (by omega)
  exact hne (dataBits_injective (bitsPoly_injective hbits (sub_eq_zero.mp hzero)))

/-- The bits of a byte stand in their own eight places. -/
theorem dataBits_set_getElem? {F : List Byte} {j : Nat} (hj : j < F.length) (b : Byte) {i : Nat}
    (hi : i < 8 * j ∨ 8 * j + 8 ≤ i) : (dataBits (F.set j b))[i]? = (dataBits F)[i]? := by
  have hset (x : Byte) : dataBits (F.take j ++ x :: F.drop (j + 1)) =
      dataBits (F.take j) ++ (bitsOf x ++ dataBits (F.drop (j + 1))) := by
    simp [dataBits]
  have hlength : (dataBits (F.take j)).length = 8 * j := by
    rw [dataBits_length, List.length_take_of_le hj.le]
  have hF : F = F.take j ++ F[j] :: F.drop (j + 1) := by simp
  have hbits (x : Byte) : (bitsOf x).length = 8 := rfl
  rw [List.set_eq_take_append_cons_drop, if_pos hj, hset]
  conv_rhs => rw [hF, hset]
  rcases hi with hbefore | hafter
  · rw [List.getElem?_append_left (by omega), List.getElem?_append_left (by omega)]
  · have hskip (x : Byte) :
        (dataBits (F.take j) ++ (bitsOf x ++ dataBits (F.drop (j + 1))))[i]? =
          (dataBits (F.drop (j + 1)))[i - 8 * j - 8]? := by
      rw [List.getElem?_append_right (by omega),
        List.getElem?_append_right (by rw [hbits]; omega), hbits, hlength]
    rw [hskip, hskip]

/-- Settles O36: one changed bit is a burst, and a frame that fails the check decodes to `CrcError`. -/
theorem everySingleBitFlipIsCaught : Obligations.EverySingleBitFlipIsCaught := by
  intro p F j k h9 hpasses hj hk
  have hlength : (F.set j (byteAt F j ^^^ (1#8 <<< k))).length = F.length := List.length_set
  have hone : 1#8 <<< k ≠ 0#8 := by
    interval_cases k <;> decide
  have hne : F.set j (byteAt F j ^^^ (1#8 <<< k)) ≠ F := by
    intro h
    have hbyte : byteAt F j ^^^ (1#8 <<< k) = byteAt F j := by
      conv_rhs => rw [← h, byteAt_eq_getElem (by omega), List.getElem_set_self]
    exact hone (by simpa using hbyte)
  have hfails := everyShortBurstIsCaught F _ (8 * j) (by omega) hlength hne
    (fun i hi => dataBits_set_getElem? hj _ (by omega)) hpasses
  refine ⟨_, _, hfails, ?_⟩
  rw [decodeFrame_eq_error_iff]
  rcases parseFrame_cases p (F.set j (byteAt F j ^^^ (1#8 <<< k))) with
    ⟨h, -⟩ | ⟨-, -, e⟩ | ⟨-, h, -⟩ | ⟨-, h, -⟩
  · omega
  · exact e
  · exact absurd h hfails
  · exact absurd h hfails

end Sys2Proof.Machine
end

section
/-!
The reports of the 32 frame types (`43_payload_dispatch.md`). Every frame instruction puts out the one
record of its type, fields and dispatched body; what differs from type to type is the name and the body.
-/

namespace Sys2Proof.Machine

/-! ### One report for every frame type -/

/-- The record that `decodedRecord` wraps (rule R171). -/
def frameRecord (t : FrameType) (f : FrameFields) (b : Body × Bool) : Decoded where
  length := f.length
  flags := flagsByte t f
  flagsHi := f.flagsHi
  net := f.net
  dest := f.dest
  src := f.src
  seq := f.seq
  frameType := t
  ar := f.ar
  dp := f.dp
  payload := f.payload
  body := b.1
  fallback := b.2

theorem decodedRecord_eq (t : FrameType) (f : FrameFields) (b : Body × Bool) :
    decodedRecord t f b = .decoded (frameRecord t f b) := rfl

/-- The code of a record is 4 for a fallback and 0 otherwise (rule R280). -/
theorem reportOf_decoded (d : Decoded) :
    reportOf (.decoded d) =
      { record := .decoded d, status := if d.fallback then 4 else 0, line := decodedLine d } := by
  simp only [reportOf, render_decoded, DecodeResult.errorName]
  cases d.fallback <;> rfl

/-- The header part of the record is the frame's, the flags byte as the sum of its fields (R84). -/
theorem headerIs_frameRecord (t : FrameType) (f : FrameFields) (b : Body × Bool) :
    headerIs t.bits.toNat f (frameRecord t f b) :=
  ⟨rfl, flagsByte_toNat t f, rfl, rfl, rfl, rfl, rfl, rfl, rfl, rfl, rfl⟩

/-- Every frame instruction puts out one report, with the body and the fallback bit that its dispatch
gives, and changes nothing else (rules R178, R182). -/
theorem frame_reports (t : FrameType) (f : FrameFields) (s : State) {b : Body × Bool}
    (hb : dispatch s.params t f.payload = b) :
    ∃ d, reportsOnly (Instr.ofFrame t f) s d ∧ headerIs t.bits.toNat f d ∧
      typeName d.frameType = typeName t ∧ d.body = b.1 ∧ d.fallback = b.2 := by
  refine ⟨frameRecord t f b, ?_, headerIs_frameRecord t f b, rfl, rfl, rfl⟩
  rw [reportsOnly, exec_ofFrame, hb, decodedRecord_eq, ← reportOf_decoded]
  rfl

/-! ### The types without a layout -/

/-- The row of a frame type in the lists of the statements: its instruction, number and name. -/
def typeRow (t : FrameType) : (FrameFields → Instr) × Nat × Line :=
  (Instr.ofFrame t, t.bits.toNat, typeName t)

/-- The reports of a list of types whose decoder gives `body`, each under the number and the name that
its row writes out. -/
theorem rows_report {rows : List ((FrameFields → Instr) × Nat × String)} (types : List FrameType)
    (hrows : (rows.map fun x => (x.1, x.2.1, x.2.2.toList)) = types.map typeRow)
    {body : List Byte → Body} (hbody : ∀ t ∈ types, ∀ p P, dispatch p t P = (body P, false))
    {x : (FrameFields → Instr) × Nat × String} (hx : x ∈ rows) (f : FrameFields) (s : State) :
    ∃ d, reportsOnly (x.1 f) s d ∧ headerIs x.2.1 f d ∧ typeName d.frameType = x.2.2.toList ∧
      d.body = body f.payload ∧ d.fallback = false := by
  obtain ⟨t, ht, hrow⟩ : ∃ t ∈ types, typeRow t = (x.1, x.2.1, x.2.2.toList) := by
    rw [← List.mem_map, ← hrows]
    exact List.mem_map_of_mem hx
  obtain ⟨hinstr, hnumber, hname⟩ : Instr.ofFrame t = x.1 ∧ t.bits.toNat = x.2.1 ∧
      typeName t = x.2.2.toList := by
    simpa [typeRow] using hrow
  rw [← hinstr, ← hnumber, ← hname]
  exact frame_reports t f s (hbody t ht _ _)

/-- Settles O47: the stub types dispatch to no payload detail. -/
theorem stubFrameReports : Obligations.StubFrameReports := fun f s _ hx =>
  rows_report [.beaconReq, .poll, .ack] rfl (body := fun _ => .noDetail)
    (by simp [dispatch, stubPayload]) hx f s

/-- Settles O48: the low reserved types dispatch to the hex dump. -/
theorem lowReservedFrameReports : Obligations.LowReservedFrameReports := fun f s _ hx =>
  rows_report [.reserved07, .reserved08, .reserved09, .reserved0A, .reserved0B, .reserved0C,
    .reserved0D, .reserved0E, .reserved0F] rfl (by simp [dispatch, opaquePayload]) hx f s

/-- Settles O49: the high reserved types dispatch to the hex dump. -/
theorem highReservedFrameReports : Obligations.HighReservedFrameReports := fun f s _ hx =>
  rows_report [.reserved14, .reserved15, .reserved16, .reserved17, .reserved18, .reserved19,
    .reserved1A, .reserved1B, .reserved1C, .reserved1D] rfl (by simp [dispatch, opaquePayload]) hx f s

/-- Settles O50: the named opaque types dispatch to the hex dump. -/
theorem namedOpaqueFrameReports : Obligations.NamedOpaqueFrameReports := fun f s _ hx =>
  rows_report [.rawData, .tinyhan, .mqttSn, .sixLowpan, .extended] rfl
    (by simp [dispatch, opaquePayload]) hx f s

/-- Settles O51: SYSLOG dispatches to the payload without its first byte. -/
theorem syslogReport : Obligations.SyslogReport := by
  intro f s
  obtain ⟨d, hreports, hheader, hname, hbody, hfallback⟩ := frame_reports .syslog f s rfl
  refine ⟨d, f.payload.drop 1, hreports, hheader, hname, hbody, hfallback, List.length_drop,
    fun k => ?_⟩
  rw [List.getElem?_drop, Nat.add_comm]

/-! ### The value of a payload field -/

/-- Within the sequence, the slice is the bytes at its offsets. -/
theorem memRead_eq_map_byteAt {P : List Byte} {o k : Nat} (h : o + k ≤ P.length) :
    memRead P o k = (List.range k).map fun i => byteAt P (o + i) := by
  refine List.ext_getElem (by rw [memRead_length h]; simp) fun i hi hi' => ?_
  rw [List.length_map, List.length_range] at hi'
  simp [memRead, byteAt_eq_getElem (show o + i < P.length by omega)]

theorem leVal_append_singleton (s : List Byte) (b : Byte) :
    leVal (s ++ [b]) = leVal s + b.toNat * 256 ^ s.length := by
  induction s with
  | nil => simp [leVal]
  | cons a s ih =>
    rw [List.cons_append, leVal, leVal, ih, List.length_cons, Nat.pow_succ]
    ring

/-- The value of a sequence of bytes is the sum of `00_scope.md` section 6.1, in either byte order. -/
theorem ordVal_memRead (ord : ByteOrder) {P : List Byte} {o k : Nat} (h : o + k ≤ P.length) :
    ordVal ord (memRead P o k) = fieldValue ord P o k := by
  rw [memRead_eq_map_byteAt h]
  clear h
  induction k with
  | zero => cases ord <;> rfl
  | succ k ih =>
    rw [List.range_succ, List.map_append, List.map_singleton]
    cases ord with
    | le =>
      simp only [ordVal, fieldValue] at ih ⊢
      rw [leVal_append_singleton, ih, List.range_succ, List.map_append, List.sum_append]
      simp
    | be =>
      simp only [ordVal, fieldValue] at ih ⊢
      have hshift : (List.range k).map (fun i => (byteAt P (o + i)).toNat * 256 ^ (k + 1 - 1 - i)) =
          (List.range k).map fun i => 256 * ((byteAt P (o + i)).toNat * 256 ^ (k - 1 - i)) := by
        refine List.map_congr_left fun i hi => ?_
        have hlt := List.mem_range.mp hi
        rw [show k + 1 - 1 - i = (k - 1 - i) + 1 by omega, Nat.pow_succ]
        ring
      rw [beVal_append_singleton, ih, List.range_succ, List.map_append, List.sum_append, hshift,
        List.sum_map_mul_left]
      simp

/-- A field as wide as its bytes holds their value (rules R54, R96). -/
theorem field_toNat (ord : ByteOrder) {P : List Byte} {o k : Nat} (h : o + k ≤ P.length) :
    (field (8 * k) ord P o k).toNat = fieldValue ord P o k := by
  have hlt := ordVal_lt ord (memRead P o k)
  rw [memRead_length h] at hlt
  rw [field, BitVec.toNat_ofNat, Nat.mod_eq_of_lt (by rwa [Nat.pow_mul]), ordVal_memRead ord h]

/-! ### The types with a layout -/

/-- The failure of a typed decoder over the lengths (rule R201, decision D6). -/
theorem payloadFails_iff (p : Params) (size : Nat) (P : List Byte) :
    payloadFails p size P = true ↔ failsLayout p size P := by
  unfold payloadFails failsLayout
  cases p.strictPayloadLen
  · simp
  · simp only [if_true, decide_eq_true_eq, true_and]
    omega

/-- The report of a typed frame: the fallback, or what the decoder parses from a payload with room for
the layout (rule R201). -/
theorem typed_frame_reports (t : FrameType) (f : FrameFields) (s : State) {size : Nat} {parsed : Body}
    (hd : dispatch s.params t f.payload = typed s.params size f.payload parsed) :
    ∃ d, reportsOnly (Instr.ofFrame t f) s d ∧ headerIs t.bits.toNat f d ∧
      typeName d.frameType = typeName t ∧
      ((failsLayout s.params size f.payload ∧ d.body = .hex f.payload ∧ d.fallback = true) ∨
        (¬ failsLayout s.params size f.payload ∧ d.fallback = false ∧ d.body = parsed)) := by
  obtain ⟨d, hreports, hheader, hname, hbody, hfallback⟩ := frame_reports t f s hd
  refine ⟨d, hreports, hheader, hname, ?_⟩
  rcases typed_cases s.params size f.payload parsed with ⟨hfails, e⟩ | ⟨hfits, e⟩ <;>
    rw [e] at hbody hfallback
  · exact .inl ⟨(payloadFails_iff _ _ _).mp hfails, hbody, hfallback⟩
  · exact .inr ⟨(payloadFails_iff _ _ _).not.mp (by simp [hfits]), hfallback, hbody⟩

/-- A payload that is taken has all bytes of the layout. -/
theorem size_le_of_not_failsLayout {p : Params} {size : Nat} {P : List Byte}
    (h : ¬ failsLayout p size P) : size ≤ P.length := by
  unfold failsLayout at h
  omega

/-- Settles O43: 12 bytes hold the four fields of the layout. -/
theorem beaconReport : Obligations.BeaconReport := by
  intro f s
  obtain ⟨d, hreports, hheader, hname, hcases⟩ := typed_frame_reports .beacon f s rfl
  refine ⟨d, hreports, hheader, hname, hcases.imp_right fun ⟨hfits, hfallback, hbody⟩ => ?_⟩
  have hsize := size_le_of_not_failsLayout hfits
  exact ⟨hfits, hfallback, _, _, _, _, hbody, field_toNat _ (k := 8) (by omega),
    field_toNat _ (k := 2) (by omega), getElem?_eq_some_byteAt (by omega),
    getElem?_eq_some_byteAt (by omega)⟩

/-- The exponent is the low four bits (rule R90). -/
theorem heartbeatExp_toNat (flags : Word16) : (heartbeatExp flags).toNat = flags.toNat % 16 := by
  simp [heartbeatExp, BitVec.extractLsb'_toNat]

/-- Every interval that a four-bit exponent gives fits into 16 bits (rule R96, decision D14). -/
theorem heartbeatSecs_toNat (exp : BitVec 4) : (heartbeatSecs exp).toNat = 2 ^ exp.toNat := by
  have hlt : 2 ^ exp.toNat < 2 ^ 16 := Nat.pow_lt_pow_right (by decide) exp.isLt
  rw [heartbeatSecs, BitVec.toNat_ofNat, Nat.mod_eq_of_lt hlt]

/-- Settles O44: 10 bytes hold the two fields of the layout. -/
theorem regReqReport : Obligations.RegReqReport := by
  intro f s
  obtain ⟨d, hreports, hheader, hname, hcases⟩ := typed_frame_reports .regReq f s rfl
  refine ⟨d, hreports, hheader, hname, hcases.imp_right fun ⟨hfits, hfallback, hbody⟩ => ?_⟩
  have hsize := size_le_of_not_failsLayout hfits
  exact ⟨hfits, hfallback, _, _, _, _, hbody, field_toNat _ (k := 8) (by omega),
    field_toNat _ (k := 2) (by omega), heartbeatExp_toNat _, heartbeatSecs_toNat _⟩

/-- The reason names as a chain of comparisons (rule R91). -/
theorem reasonName_eq (reason : Byte) :
    reasonName reason = if reason = 0#8 then .user else if reason = 1#8 then .power else .unknown := by
  revert reason
  decide +kernel

/-- Settles O45: 9 bytes hold the two fields of the layout. -/
theorem deregReqReport : Obligations.DeregReqReport := by
  intro f s
  obtain ⟨d, hreports, hheader, hname, hcases⟩ := typed_frame_reports .deregReq f s rfl
  refine ⟨d, hreports, hheader, hname, hcases.imp_right fun ⟨hfits, hfallback, hbody⟩ => ?_⟩
  have hsize := size_le_of_not_failsLayout hfits
  rw [reasonName_eq] at hbody
  exact ⟨hfits, hfallback, _, _, hbody, field_toNat _ (k := 8) (by omega),
    getElem?_eq_some_byteAt (by omega)⟩

/-- The status names as a chain of comparisons (rule R92, decision D11). -/
theorem statusName_eq (status : Byte) :
    statusName status =
      if status = 0#8 then .ok else if status = 1#8 then .denied
      else if status = 2#8 then .full else if status = 3#8 then .shutdown
      else if status = 4#8 then .admin else if status = 5#8 then .addressInvalid
      else .unknown := by
  revert status
  decide +kernel

/-- Settles O46: 10 bytes hold the three fields of the layout. -/
theorem regAckReport : Obligations.RegAckReport := by
  intro f s
  obtain ⟨d, hreports, hheader, hname, hcases⟩ := typed_frame_reports .regAck f s rfl
  refine ⟨d, hreports, hheader, hname, hcases.imp_right fun ⟨hfits, hfallback, hbody⟩ => ?_⟩
  have hsize := size_le_of_not_failsLayout hfits
  rw [statusName_eq] at hbody
  exact ⟨hfits, hfallback, _, _, _, hbody, field_toNat _ (k := 8) (by omega),
    getElem?_eq_some_byteAt (by omega), getElem?_eq_some_byteAt (by omega)⟩

end Sys2Proof.Machine
end

section
/-!
The texts of the line (`44_rendering.md`): digits, hex dumps, SYSLOG text, the typed payloads, the error
lines, and the status codes (rule R280).
-/

namespace Sys2Proof.Machine

/-! ### Digits -/

/-- A digit is the character that its alphabet holds at its value (rule R251). -/
theorem hexDigit_eq : ∀ n < 16, "0123456789ABCDEF".toList[n]? = some (hexDigit n) := by
  decide

/-- Position `i` of `k` digits holds the digit of the power `k - 1 - i` of 16. -/
theorem hexDigits_getElem? {k i : Nat} (n : Nat) (h : i < k) :
    (hexDigits k n)[i]? = some (hexDigit (n / 16 ^ (k - 1 - i) % 16)) := by
  induction k generalizing n with
  | zero => omega
  | succ k ih =>
    rw [hexDigits]
    rcases Nat.lt_succ_iff_lt_or_eq.mp h with hlt | rfl
    · rw [List.getElem?_append_left (by simpa using hlt), ih _ hlt, Nat.div_div_eq_div_mul,
        ← Nat.pow_succ', show (k - 1 - i).succ = k + 1 - 1 - i by omega]
    · rw [List.getElem?_append_right (by simp)]
      simp

/-- Settles O54: two digits of a byte are its quotient and remainder by 16. -/
theorem bytesPrintAsTwoUpperCaseDigits : Obligations.BytesPrintAsTwoUpperCaseDigits := by
  refine ⟨fun b => ?byte, fun k n => ⟨hexDigits_length k n, fun i hi => ?digit⟩⟩
  case byte =>
    have hb := b.isLt
    refine ⟨hexDigit (b.toNat / 16), hexDigit (b.toNat % 16), ?_, hexDigit_eq _ (by omega),
      hexDigit_eq _ (by omega)⟩
    simp [hex2, hexDigits, Nat.mod_eq_of_lt (show b.toNat / 16 < 16 by omega)]
  case digit => rw [hexDigits_getElem? n hi, hexDigit_eq _ (Nat.mod_lt _ (by decide))]

/-- A number that is not zero begins with another digit than 0. -/
theorem decimal_head {n : Nat} (h : n ≠ 0) : ∃ c rest, decimal n = c :: rest ∧ c ≠ '0' := by
  induction n using Nat.strongRecOn with
  | ind n ih =>
    rcases Nat.lt_or_ge n 10 with hlt | hge
    · exact ⟨n.digitChar, [], Nat.toDigits_of_lt_base hlt, by simpa using h⟩
    · obtain ⟨c, rest, hrest, hc⟩ := ih (n / 10) (by omega) (by omega)
      refine ⟨c, rest ++ [(n % 10).digitChar], ?_, hc⟩
      rw [decimal, Nat.toDigits_of_base_le (by decide) hge, ← decimal, hrest, List.cons_append]

/-- Settles O55: the library's decimal digits read back; the leading digit is that of the last
quotient. -/
theorem decimalReadsBackWithoutLeadingZeros : Obligations.DecimalReadsBackWithoutLeadingZeros := by
  refine fun n => ⟨fun c hc => ?digit, Nat.ofDigitChars_ten_toDigits, ?zero, decimal_head⟩
  case digit =>
    have hdigit := Nat.isDigit_of_mem_toDigits (by decide) (by decide) hc
    obtain ⟨hlow, hhigh⟩ : '0'.val ≤ c.val ∧ c.val ≤ '9'.val := by
      simpa only [Char.isDigit, Bool.and_eq_true, decide_eq_true_eq] using hdigit
    exact ⟨hlow, hhigh⟩
  case zero => rintro rfl; rfl

/-! ### Hex dumps and text -/

theorem payloadText_hex (bytes : List Byte) : payloadText (.hex bytes) = hexDump bytes := rfl

theorem hexDump_cons_cons (b c : Byte) (bytes : List Byte) :
    hexDump (b :: c :: bytes) = hex2 b ++ ' ' :: hexDump (c :: bytes) := rfl

theorem hexDump_length (bytes : List Byte) : (hexDump bytes).length = 3 * bytes.length - 1 := by
  induction bytes with
  | nil => rfl
  | cons b bytes ih =>
    cases bytes with
    | nil => exact hex2_length b
    | cons c bytes =>
      rw [hexDump_cons_cons, List.length_append, hex2_length, List.length_cons, ih]
      simp only [List.length_cons]
      omega

/-- Three columns further on stands the dump of the bytes from the next one. -/
theorem hexDump_drop {bytes : List Byte} {k : Nat} (h : k < bytes.length) :
    (hexDump bytes).drop (3 * k) = hexDump (bytes.drop k) := by
  induction k generalizing bytes with
  | zero => rfl
  | succ k ih =>
    match bytes, h with
    | b :: c :: bytes, h =>
      have hb : (hex2 b ++ [' ']).length = 3 := by simp
      have hsplit : hexDump (b :: c :: bytes) = (hex2 b ++ [' ']) ++ hexDump (c :: bytes) := by
        rw [hexDump_cons_cons, List.append_assoc, List.singleton_append]
      rw [hsplit, show 3 * (k + 1) = 3 + 3 * k by omega, ← List.drop_drop, List.drop_left' hb,
        ih (Nat.lt_of_succ_lt_succ h), List.drop_succ_cons]

/-- A dump begins with the digits of its first byte. -/
theorem hexDump_take_two (b : Byte) (bytes : List Byte) : (hexDump (b :: bytes)).take 2 = hex2 b := by
  cases bytes with
  | nil => exact List.take_of_length_le (hex2_length b).le
  | cons c bytes => exact List.take_left' (hex2_length b)

/-- Settles O56: at three columns a byte, each part of the dump begins like a dump. -/
theorem hexDumpLayout : Obligations.HexDumpLayout := by
  intro bytes
  rw [payloadText_hex]
  refine ⟨hexDump_length bytes, fun k b hb => ?digits, fun k hk => ?space⟩
  case digits =>
    obtain ⟨hlt, rfl⟩ := List.getElem?_eq_some_iff.mp hb
    rw [hexDump_drop hlt, List.drop_eq_getElem_cons hlt, hexDump_take_two]
  case space =>
    rw [← List.getElem?_drop, hexDump_drop (by omega), List.drop_eq_getElem_cons (by omega),
      List.drop_eq_getElem_cons hk, hexDump_cons_cons,
      List.getElem?_append_right (hex2_length _).le, hex2_length]
    rfl

/-- Every byte is a code point of its own (rule R262). -/
theorem char_ofNat_byte_toNat (b : Byte) : (Char.ofNat b.toNat).toNat = b.toNat := by
  have hb := b.isLt
  rw [Char.toNat_ofNat, if_pos (.inl (by omega))]

/-- Settles O57: the text is a map over the bytes. -/
theorem textIsOneCharacterPerByte : Obligations.TextIsOneCharacterPerByte := by
  intro bytes
  change (bytes.map fun b => Char.ofNat b.toNat).map Char.toNat = _
  rw [List.map_map]
  exact List.map_congr_left fun b _ => char_ofNat_byte_toNat b

/-! ### The typed payloads, the error lines, the codes -/

/-- Joined pieces are the first and then each other with a space before it. -/
theorem joinSpaces_cons (t : Line) (rest : List Line) :
    joinSpaces (t :: rest) = t ++ rest.flatMap fun u => ' ' :: u := by
  induction rest generalizing t with
  | nil => rw [List.flatMap_nil, List.append_nil]; rfl
  | cons u rest ih =>
    have hcons : joinSpaces (t :: u :: rest) = t ++ ' ' :: joinSpaces (u :: rest) := rfl
    rw [hcons, ih, List.flatMap_cons, List.cons_append]

/-- A conditional token brings its space with it. -/
theorem flatMap_tokenIf (c : Bool) (t : Line) :
    (tokenIf c t).flatMap (fun u => ' ' :: u) = if c then ' ' :: t else [] := by
  cases c <;> simp [tokenIf]

/-- Settles O58: every token after the first is printed with the space before it. -/
theorem typedPayloadTexts : Obligations.TypedPayloadTexts := by
  refine ⟨fun uuid timestamp flags interval sync permit => ?beacon, fun uuid flags exp secs sleepy =>
    ?regReq, fun uuid reason name => ?deregReq, fun uuid addr status name => ?regAck, rfl⟩
  case beacon =>
    have htimestamp : " TIMESTAMP=".toList = ' ' :: "TIMESTAMP=".toList := rfl
    have hinterval : " INTERVAL=".toList = ' ' :: "INTERVAL=".toList := rfl
    have hsync : " SYNC".toList = ' ' :: "SYNC".toList := rfl
    have hpermit : " PERMIT_ATTACH".toList = ' ' :: "PERMIT_ATTACH".toList := rfl
    simp only [payloadText, uuidToken, hex16, List.cons_append, joinSpaces_cons, List.flatMap_cons,
      List.flatMap_append, flatMap_tokenIf, List.nil_append, List.append_assoc, htimestamp, hinterval,
      hsync, hpermit]
  case regReq =>
    have hheartbeat : " HEARTBEAT=".toList = ' ' :: "HEARTBEAT=".toList := rfl
    have hsleepy : " (SLEEPY)".toList = ' ' :: "(SLEEPY)".toList := rfl
    simp only [payloadText, uuidToken, hex16, List.cons_append, joinSpaces_cons, List.flatMap_cons,
      flatMap_tokenIf, List.nil_append, List.append_assoc, hheartbeat, hsleepy]
  case deregReq =>
    have hreason : " REASON=".toList = ' ' :: "REASON=".toList := rfl
    simp only [payloadText, uuidToken, hex16, List.cons_append, joinSpaces_cons, List.flatMap_cons,
      List.flatMap_nil, List.append_nil, List.append_assoc, hreason]
    cases name <;> rfl
  case regAck =>
    have haddr : " ADDR=".toList = ' ' :: "ADDR=".toList := rfl
    have hstatus : " STATUS=".toList = ' ' :: "STATUS=".toList := rfl
    simp only [payloadText, uuidToken, hex16, List.cons_append, joinSpaces_cons, List.flatMap_cons,
      List.flatMap_nil, List.append_nil, List.append_assoc, haddr, hstatus]
    cases name <;> rfl

/-- Settles O59: each line is the template of its error. -/
theorem errorLines : Obligations.ErrorLines := ⟨fun _ => rfl, fun _ _ => rfl, fun _ _ => rfl⟩

/-- Settles O60: the code of each kind of record, so none is above 4. -/
theorem statusCodes : Obligations.StatusCodes := by
  have hdecoded (d : Decoded) : (reportOf (.decoded d)).status = if d.fallback then 4 else 0 := by
    rw [reportOf_decoded]
  refine ⟨fun _ => rfl, fun _ _ => rfl, fun _ _ => rfl, hdecoded, fun r => ?bound⟩
  case bound =>
    match r with
    | .error (.frameTooShort _) => exact (by decide : (1 : Nat) ≤ 4)
    | .error (.crcError _ _) => exact (by decide : (3 : Nat) ≤ 4)
    | .error (.payloadTooShort _ _) => exact (by decide : (2 : Nat) ≤ 4)
    | .decoded d => rw [hdecoded]; split <;> decide

end Sys2Proof.Machine
end
